-- ==== Sys2Proof/Word.lean ====
section
/-! DEFINITION. The word types of the station: octets, network time, 16-bit and 32-bit counts. -/

namespace Sys2Proof

/-- One octet of the attach port, the timing bus or the journal memory (R37, R180). -/
abbrev Octet := BitVec 8

/-- Network time: an unsigned 48-bit count of nanoseconds that wraps (00_scope.md 3.1, R1). -/
abbrev NT := BitVec 48

/-- Round numbers, mark sequences, swap generations and the 16-bit counters (R199). -/
abbrev Word16 := BitVec 16

/-- Arm sequences, widths, intervals, delays and offsets (R92, R121). -/
abbrev Word32 := BitVec 32

end Sys2Proof
end

