-- ==== Sys2Proof/Syntax.lean ====
section
/-! DEFINITION. The commands: one constructor per row of spec/opcode_table.json, with its operands. -/

namespace Sys2Proof

/-- A line level (R199). -/
inductive Level where
  | low
  | high
  deriving DecidableEq, Repr

/-- Where, in a round start that releases hold, the cycle unit's round start and its offset-0 fires stand
against the release: R130 and R157 leave the order open (assumption 7). -/
inductive ReleaseOrder where
  /-- The release is taken first; offset-0 fires are taken after it. -/
  | releaseFirst
  /-- The cycle unit takes its round start and then this many of the offset-0 fires that are due, in index order, and the
  release is taken after these. The other fires of the step come after it. -/
  | roundStartFirst (fires : Nat)
  deriving DecidableEq, Repr

/-- The orders that the manual leaves open inside one ROUND_END event (assumption 7). -/
structure RoundOrder where
  /-- Release of hold against the cycle unit (R130, R157). -/
  release : ReleaseOrder
  /-- On the fall to LISTEN: the purge of the send queue before the action unit's reports (R31). -/
  purgeFirst : Bool
  /-- On the fall to LISTEN: the ABANDONED records before the action unit's BLOCKED reports (R31, R86). -/
  recordsFirst : Bool
  /-- Loss of a target before the reply deadline (R172). -/
  lossFirst : Bool
  deriving DecidableEq, Repr

/-- What completes with a frame. -/
structure ReceivedFrame where
  /-- Every octet received, from the start delimiter to the check sequence (R48). -/
  octets : List Octet
  /-- The channels (bit c for channel c) whose sample of this step is taken after an adoption that the frame leads to; R65
  leaves the order open (assumption 7). -/
  sampledAfter : Octet
  deriving DecidableEq, Repr

/-- The commands of the station. An attach-port command stands for its taking (R181, assumption 5); every other
row stands for the event of its name. -/
inductive Instr where
  /-- RESET (R197). -/
  | reset
  /-- ADJUSTED_STEP (R12): the levels of CH0 to CH7 (bit c for channel c) and of HOLD in the new step. -/
  | adjustedStep (lines : Octet) (hold : Level)
  /-- LISTEN_TIMER_EXPIRY (R19). -/
  | listenTimerExpiry
  /-- ROUND_END (R6). -/
  | roundEnd (order : RoundOrder)
  /-- OWN_SEND_INSTANT (R38). -/
  | ownSendInstant
  /-- COLLISION (R39). -/
  | collision
  /-- FRAME_SENT_WHOLE (R45). -/
  | frameSentWhole
  /-- FRAME_COMPLETE (R48). -/
  | frameComplete (received : ReceivedFrame)
  /-- FRAME_FAILED (R47). -/
  | frameFailed
  /-- EDGE_ACCEPTED (R64): the channel, and whether the matcher takes the mark before the send queue (R69). -/
  | edgeAccepted (channel : Nat) (matcherFirst : Bool)
  /-- HOLD_LINE_ACCEPTED (R149). -/
  | holdLineAccepted
  /-- FIRE (R102): of the first due entry of the fire queue (R101). -/
  | fire
  /-- PULSE_END (R103): of the entry at an index. -/
  | pulseEnd (index : Nat)
  /-- EXPIRY (R105): of the entry at an index. -/
  | expiry (index : Nat)
  /-- CYCLIC_FIRE (R128): of the first due entry of the fire list. -/
  | cyclicFire
  /-- CYCLIC_PULSE_END (R129): of the pending cyclic pulse end at a place of their list, oldest first. -/
  | cyclicPulseEnd (place : Nat)
  /-- TRANSACTION_START (R182): SEL_N falls. -/
  | transactionStart
  /-- TRANSACTION_END (R183): SEL_N rises. -/
  | transactionEnd
  /-- ANSWER_READY (R181): whether the first bit of the octet that comes next on SDO has been driven by then, so that it
  stays a wait octet. -/
  | answerReady (octetBegun : Bool)
  /-- LOAD_PROFILE (R187): the 216 octets of the profile. -/
  | loadProfile (profile : List Octet)
  /-- START (R189). -/
  | start
  /-- STATUS (R190). -/
  | status
  /-- READ_TIME (R15). -/
  | readTime
  /-- READ_PEER (R58): station number. -/
  | readPeer (station : Octet)
  /-- READ_CHANNEL (R74): channel. -/
  | readChannel (channel : Octet)
  /-- READ_PROFILE (R191). -/
  | readProfile
  /-- ARM (R97): the channel, then octets 4 to 31 of the ARM item (R186). -/
  | arm (channel : Octet) (fields : List Octet)
  /-- CANCEL (R110): index and tag. -/
  | cancel (index tag : Octet)
  /-- READ_ENTRY (R119): index. -/
  | readEntry (index : Octet)
  /-- ARM_REMOTE (R166): target station and channel, then octets 4 to 31 of the ARM item. -/
  | armRemote (target channel : Octet) (fields : List Octet)
  /-- CANCEL_REMOTE (R173): tag. -/
  | cancelRemote (tag : Octet)
  /-- READ_OUTBOUND (R179). -/
  | readOutbound
  /-- STAGE_ENTRY (R123): index, then the 12 octets of the cyclic entry (10.7.5). -/
  | stageEntry (index : Octet) (entry : List Octet)
  /-- CLEAR_STAGED (R124): first index and count. -/
  | clearStaged (first count : Octet)
  /-- MARK_READY (R125). -/
  | markReady
  /-- READ_BANK (R140): bank, first index and count. -/
  | readBank (bank first count : Octet)
  /-- PROPOSE_SWAP (R131): round number. -/
  | proposeSwap (round : Word16)
  /-- RING_STATUS (R90): ring. -/
  | ringStatus (ring : Octet)
  /-- READ_RING (R88): ring and k. -/
  | readRing (ring k : Octet)
  /-- RELEASE_RING (R89): ring and n. -/
  | releaseRing (ring : Octet) (n : Word16)
  /-- HOLD (R150). -/
  | hold
  /-- RELEASE (R151). -/
  | release
  /-- READ_NOTICES (R194). -/
  | readNotices
  /-- ACK_NOTICES (R195): cause set. -/
  | ackNotices (causes : Word16)
  /-- SET_NOTICE_MASK (R196): cause set. -/
  | setNoticeMask (causes : Word16)
  /-- SOFT_RESET (R198). -/
  | softReset
  /-- UNKNOWN_COMMAND (R184): the command octet. -/
  | unknownCommand (octet : Octet)
  /-- REFERENCE_PERIOD (R1): the levels of CH0 to CH7 and of HOLD in the new step. -/
  | referencePeriod (lines : Octet) (hold : Level)
  /-- RECEPTION_START (R46). -/
  | receptionStart
  /-- LINE_IDLE (R46). -/
  | lineIdle
  /-- RESET_ASSERTED (R197). -/
  | resetAsserted
  /-- PORT_OCTET (R180): the octet clocked in on SDI. -/
  | portOctet (sdi : Octet)
  deriving DecidableEq, Repr

end Sys2Proof
end

