-- ==== Sys2Proof/Decode.lean ====
section
/-! DEFINITION. The command a word of the opcode table spells: no row of the table gives bits. -/

namespace Sys2Proof

/-- The command that a word spells by the table's bits: none, since no row gives bits (assumption 32). -/
def decodeTableWord (_nbits _w : Nat) : Option Instr := none

end Sys2Proof
end

