-- ==== Sys2Proof/Config.lean ====
section
/-! DEFINITION. What is fixed in the part, and the values the manual leaves open. -/

namespace Sys2Proof.Config

/-- Scheduling margin M, in ns (00_scope.md 3.3). -/
def margin : Nat := 2000

/-- Octets of a profile (R186, 10.7.6). -/
def profileOctets : Nat := 216

/-- Places of the send queue, and the places open to MARK, ARM and CANCEL items (R42). -/
def queuePlaces : Nat := 32

/-- See `queuePlaces`. -/
def queueOpenPlaces : Nat := 28

/-- Record places of the journal memory (R75). -/
def recordPlaces : Nat := 2048

/-- Reference periods until an answer is ready: 200 ns of the 40 MHz reference (R181).
DEDUCED, assumption 9: the span is counted on the reference clock. -/
def answerPeriods : Nat := 8

/-- Reference periods until the answer of LOAD_PROFILE is ready: 10,000 ns (R181; assumption 9). -/
def profileAnswerPeriods : Nat := 400

/-- The station number used for a garbled or foreign frame whose observed instant lay in no round: R52
attributes by the round current then, and there is none (R34). A free value, assumption 13. -/
opaque freeSlot : Nat → Nat

/-- The deviation of a frame taken for joining whose observed instant lay in no round (R8, R55).
A free value, assumption 14. -/
opaque freeDeviation : Nat → Int

end Sys2Proof.Config
end

