-- ==== Sys2Proof/Machine/State.lean ====
section
/-! DEFINITION. The state of the station, block by block, as plain data, and its values after reset. -/

namespace Sys2Proof.Machine

/-! ### Marks, actions and items -/

/-- The direction of an edge (R64). -/
inductive Edge where
  | rising
  | falling
  deriving DecidableEq, Repr

/-- An edge select, or the edge of a trigger (R62, R92). -/
inductive EdgeSel where
  | rising
  | falling
  | either
  deriving DecidableEq, Repr

/-- A mark (R67). -/
structure Mark where
  station  : Nat
  channel  : Nat
  edge     : Edge
  seq      : Word16
  time     : NT
  unsynced : Bool
  deriving DecidableEq, Repr

/-- What a fire does to a drive line (R92, R121). -/
inductive Effect where
  | set (level : Level)
  | toggle
  | pulse (level : Level) (width : Word32)
  deriving DecidableEq, Repr

/-- The trigger of an armed entry (R92). The interval is kept when the repeat count given was above 0. -/
inductive Trigger where
  | atTime (time : NT) (interval : Option Word32)
  | onMark (station channel : Nat) (edge : EdgeSel) (delay : Word32) (minSeq : Option Word16)
  deriving DecidableEq, Repr

/-- The trigger of an arm as its octets give it, before R96 judges it (10.7.3). -/
inductive ArmTrigger where
  | atTime (time : NT) (interval : Word32)
  | onMark (station channel edge : Octet) (delay : Word32) (minSeq : Option Word16)
  deriving DecidableEq, Repr

/-- Octets 4 to 31 of an ARM item, before R96 judges them (10.7.3). -/
structure ArmFields where
  trigger : ArmTrigger
  /-- 0 SET, 1 TOGGLE, 2 PULSE; 3 names no effect. -/
  effect  : Nat
  level   : Level
  repeats : Nat
  expiry  : Option NT
  width   : Word32
  deriving DecidableEq, Repr

/-- A REPORT item (R41). The kind and the code are octets as sent: R168 discards those it does not know. -/
structure ReportItem where
  requester : Nat
  tag       : Octet
  kind      : Octet
  code      : Octet
  lastFire  : Option NT
  fireCount : Word16
  detail    : Option Word16
  deriving DecidableEq, Repr

/-- An item of a frame body (R41). -/
inductive Item where
  | mark (m : Mark)
  | arm (target : Nat) (channel : Nat) (tag : Octet) (fields : ArmFields)
  | cancel (target : Nat) (tag : Octet)
  | report (r : ReportItem)
  deriving DecidableEq, Repr

/-! ### The profile -/

/-- The settings of a CAPTURE channel (R62). -/
structure CaptureCfg where
  filterLen : Nat
  sampleExp : Nat
  edgeSel   : EdgeSel
  prescaler : Nat
  publish   : Bool
  ring      : Option Nat
  deriving DecidableEq, Repr

/-- The settings of a DRIVE channel: its levels (R141) and its permission set (R159). -/
structure DriveCfg where
  rest   : Level
  safe   : Level
  permit : Word16
  deriving DecidableEq, Repr

/-- A channel's role with the settings of that role (R61). -/
inductive ChannelCfg where
  | unused
  | capture (c : CaptureCfg)
  | drive (d : DriveCfg)
  deriving DecidableEq, Repr

/-- What a ring takes (R75). -/
inductive RingSource where
  | localChannel (channel : Nat)
  | peerMarks (stations : Word16) (channels : Octet)
  | reports
  deriving DecidableEq, Repr

/-- The definition of a ring (R75). -/
structure RingDef where
  base   : Nat
  length : Nat
  source : RingSource
  low    : Nat
  deriving DecidableEq, Repr

/-- The profile's setting of the HOLD line (R149). -/
inductive HoldLine where
  | notUsed
  | activeHigh
  | activeLow
  deriving DecidableEq, Repr

/-- The profile as the blocks take it at START (R189, 10.7.6). -/
structure Profile where
  clusterTag     : Word16
  /-- The own station number n. -/
  station        : Nat
  /-- S -/
  stations       : Nat
  /-- P -/
  period         : Nat
  /-- O -/
  sendOffset     : Nat
  /-- W -/
  window         : Nat
  /-- C -/
  corrLimit      : Nat
  /-- m -/
  minRefs        : Nat
  /-- H -/
  holdover       : Nat
  /-- Reference periods of one bit: 4, 8 or 16 (R37). -/
  bitPeriods     : Nat
  /-- B -/
  bodyBudget     : Nat
  /-- D -/
  replyDeadline  : Nat
  holdLine       : HoldLine
  manual         : Bool
  holdOnHoldover : Bool
  noticeMask     : Word16
  lineDelays     : Vector Nat 16
  channels       : Vector ChannelCfg 8
  rings          : Vector (Option RingDef) 8
  deriving DecidableEq, Repr

/-- Before START no block has a profile: every channel is UNUSED (R61), there are no rings (R75) and no permission
sets (R159). The numbers, and the settings that R147 gives a dash after reset (release policy AUTO, hold-on-holdover clear)
or that R149 takes from the profile (HOLD line not used), are a DESIGN CHOICE, assumption 22. -/
def Profile.none : Profile where
  clusterTag := 0
  station := 0
  stations := 0
  period := 0
  sendOffset := 0
  window := 0
  corrLimit := 0
  minRefs := 0
  holdover := 0
  bitPeriods := 4
  bodyBudget := 0
  replyDeadline := 0
  holdLine := .notUsed
  manual := false
  holdOnHoldover := false
  noticeMask := 0
  lineDelays := Vector.replicate 16 0
  channels := Vector.replicate 8 .unused
  rings := Vector.replicate 8 Option.none

/-! ### Timebase -/

/-- The synchronization states (R17). -/
inductive Sync where
  | off
  | listen
  | coldstart
  | joining
  | synced
  | holdover
  deriving DecidableEq, Repr

/-- An entry of the deviation list (R9): the deviation, and whether the frame's heard set named the own station. -/
structure Deviation where
  value : Int
  named : Bool
  deriving DecidableEq, Repr

/-- The timebase (01, 02). -/
structure Timebase where
  nt           : NT
  /-- The number of the step, counted in reference periods from the reset (assumption 6). -/
  stepNo       : Nat
  round        : Word16
  rs           : NT
  /-- Tells one instance of a round from every other, for R9 and R34 (assumption 6). -/
  epoch        : Nat
  /-- The deviation list, by sender (R9). -/
  deviations   : Vector (Option Deviation) 16
  /-- Correction of the last round: c, n, applied (R10, R11). -/
  corr         : Int
  corrCount    : Nat
  corrApplied  : Bool
  /-- Counts of the last round (R10). -/
  refs         : Nat
  refsNaming   : Nat
  /-- The slew in progress: remaining amount, spacing k, and periods left to the next adjusted step (R12). -/
  slew         : Int
  spacing      : Nat
  slewLeft     : Nat
  sync         : Sync
  listenTimer  : Option NT
  coldRounds   : Nat
  coldAttempts : Word16
  joinCount    : Nat
  thin         : Nat
  unheard      : Nat
  holdRounds   : Nat
  deriving DecidableEq, Repr

/-- R16, R17. -/
def Timebase.reset : Timebase where
  nt := 0
  stepNo := 0
  round := 0
  rs := 0
  epoch := 0
  deviations := Vector.replicate 16 none
  corr := 0
  corrCount := 0
  corrApplied := false
  refs := 0
  refsNaming := 0
  slew := 0
  spacing := 0
  slewLeft := 0
  sync := .off
  listenTimer := none
  coldRounds := 0
  coldAttempts := 0
  joinCount := 0
  thin := 0
  unheard := 0
  holdRounds := 0

/-! ### Round controller -/

/-- The own frame in flight (R38): what is on the line, the round it was begun in, the step of its begin, and how
many items at the head of the send queue are packed into it (R42, R44). -/
structure OwnFrame where
  octets : List Octet
  round  : Word16
  begun  : Nat
  packed : Nat
  deriving DecidableEq, Repr

/-- A frame under reception: its observed instant (R46) and the round that was current then (R8, R34); `inRound`
is clear when no round ran. -/
structure Reception where
  observed : NT
  epoch    : Nat
  inRound  : Bool
  round    : Word16
  rs       : NT
  deriving DecidableEq, Repr

/-- The frame receiver (R46, R47). -/
inductive Receiver where
  | notReceiving
  /-- Waiting for the line to be idle for 20 bit periods. -/
  | waitIdle
  /-- The line has been idle: the next start bit begins a reception. -/
  | ready
  | receiving (r : Reception)
  /-- Cut short by the own send instant in this step: it fails (R47). -/
  | cutShort (r : Reception)
  deriving DecidableEq, Repr

/-- The state of a peer (R53). -/
inductive PeerState where
  | absent
  | heard
  | lost
  deriving DecidableEq, Repr

/-- The header flags a peer last showed (R53). -/
structure HeaderFlags where
  synced      : Bool
  holdover    : Bool
  held        : Bool
  swapSkipped : Bool
  deriving DecidableEq, Repr

/-- An entry of the peer table (R53). -/
structure Peer where
  state       : PeerState
  lastRound   : Option Word16
  silent      : Nat
  lastDev     : Option Int
  lastHeard   : Word16
  flags       : HeaderFlags
  lastGen     : Option Word16
  checkFails  : Word16
  misplaced   : Word16
  mismatches  : Word16
  foreign     : Word16
  deriving DecidableEq, Repr

/-- R53, after reset. -/
def Peer.reset : Peer where
  state := .absent
  lastRound := none
  silent := 0
  lastDev := none
  lastHeard := 0
  flags := { synced := false, holdover := false, held := false, swapSkipped := false }
  lastGen := none
  checkFails := 0
  misplaced := 0
  mismatches := 0
  foreign := 0

/-- The round controller (03). -/
structure RoundCtl where
  inFlight    : Option OwnFrame
  /-- The own send instant of the current round has been taken (R38). -/
  sendTaken   : Bool
  receiver    : Receiver
  /-- The send queue, oldest item first (R42). -/
  queue       : List Item
  heardNow    : Word16
  heardPrev   : Word16
  peers       : Vector Peer 16
  collisions  : Word16
  duplicates  : Word16
  purged      : Word16
  reportDrops : Word16
  deriving DecidableEq, Repr

/-- R60. -/
def RoundCtl.reset : RoundCtl where
  inFlight := none
  sendTaken := false
  receiver := .notReceiving
  queue := []
  heardNow := 0
  heardPrev := 0
  peers := Vector.replicate 16 Peer.reset
  collisions := 0
  duplicates := 0
  purged := 0
  reportDrops := 0

/-! ### Channel units -/

/-- The capture filter (R64). `edgeDue` is set from the sample that completes the run until the edge is accepted
(assumption 24); `runStep` is the step of the run's first sample (R65; assumption 6). -/
structure Filter where
  accepted  : Option Level
  candidate : Level
  run       : Nat
  runStart  : NT
  runStep   : Nat
  edgeDue   : Bool
  deriving DecidableEq, Repr

/-- The kinds of level-change request, in the order of R143. -/
inductive ReqKind where
  | cyclicEnd
  | armedEnd
  | cyclicStart
  | armedStart
  deriving DecidableEq, Repr

/-- A level-change request (R142). `key` is the bank index or the arm sequence, `index` the armed-list index that
decides arm order between sequences 2^31 apart (R94). -/
structure LevelReq where
  kind  : ReqKind
  due   : NT
  key   : Nat
  index : Nat
  /-- The level asked for; none asks for the inversion. -/
  level : Option Level
  deriving DecidableEq, Repr

/-- The drive side of a channel (R141). The line is driven exactly when it has a current level. The last five fields
hold what R143 settles the step from: the values at the end of the step before, and what was taken in the step. -/
structure Drive where
  level       : Option Level
  forced      : Bool
  lastChange  : Option NT
  changes     : Word16
  baseLevel   : Option Level
  baseLast    : Option NT
  baseChanges : Word16
  released    : Bool
  requests    : List LevelReq
  deriving DecidableEq, Repr

/-- A channel unit (04, 08). -/
structure Channel where
  /-- Reference periods since the last sample (R63). -/
  phase       : Nat
  filter      : Filter
  prescale    : Nat
  markSeq     : Word16
  publishLoss : Word16
  lastMark    : Option Mark
  drive       : Drive
  deriving DecidableEq, Repr

/-- R73, R141. -/
def Channel.reset : Channel where
  phase := 0
  filter := { accepted := none, candidate := .low, run := 0, runStart := 0, runStep := 0, edgeDue := false }
  prescale := 0
  markSeq := 0
  publishLoss := 0
  lastMark := none
  drive :=
    { level := none, forced := true, lastChange := none, changes := 0, baseLevel := none, baseLast := none,
      baseChanges := 0, released := false, requests := [] }

/-! ### Journal unit -/

/-- A defined ring with its running state (R76). The write index is computed from it. -/
structure Ring where
  defn         : RingDef
  readIdx      : Nat
  count        : Nat
  lowRoom      : Bool
  pendingLoss  : Word16
  totalLost    : Word32
  lossReported : Bool
  deriving DecidableEq, Repr

/-- The journal unit (05). The memory lists cells of octets, 16 to a record place. -/
structure Journal where
  mem       : List Host.Cell
  rings     : Vector (Option Ring) 8
  discarded : Word16
  deriving DecidableEq, Repr

/-- R91. -/
def Journal.reset : Journal where
  mem := []
  rings := Vector.replicate 8 none
  discarded := 0

/-! ### Action unit -/

/-- The state of a non-FREE entry (R92). `since` is the step in which it became WAITING or ACTIVE: R103 and R105
await from the step after (assumption 6). -/
inductive EntryState where
  | waiting (since : Nat)
  | scheduled (next : NT)
  | active (pulseEnd : NT) (since : Nat) (cancelPending : Bool)
  deriving DecidableEq, Repr

/-- A non-FREE entry of the armed list (R92). -/
structure Entry where
  owner     : Nat
  tag       : Octet
  channel   : Nat
  trigger   : Trigger
  effect    : Effect
  remaining : Nat
  fireCount : Nat
  lastFire  : Option NT
  expiry    : Option NT
  armSeq    : Word32
  lastUsed  : Option Word16
  state     : EntryState
  deriving DecidableEq, Repr

/-- The action unit (06). A place without an entry is FREE. -/
structure ActionUnit where
  entries  : Vector (Option Entry) 48
  armSeq   : Word32
  localTag : Octet
  held     : Bool
  deriving DecidableEq, Repr

/-- R95. -/
def ActionUnit.reset : ActionUnit where
  entries := Vector.replicate 48 none
  armSeq := 0
  localTag := 0
  held := true

/-! ### Cycle unit -/

/-- A cyclic entry (R121). -/
structure CyclicEntry where
  channel : Nat
  offset  : Word32
  effect  : Effect
  exp     : Nat
  phase   : Nat
  deriving DecidableEq, Repr

/-- The two banks (R120). -/
inductive BankName where
  | a
  | b
  deriving DecidableEq, Repr

/-- The state of the bank that is not running (R122). -/
inductive Staged where
  | empty
  | editing
  | ready
  deriving DecidableEq, Repr

/-- A fire of the fire list (R127): bank index, entry and fire instant. -/
structure CyclicDue where
  index   : Nat
  entry   : CyclicEntry
  instant : NT
  deriving DecidableEq, Repr

/-- A pending cyclic pulse end (R128); `since` is the step of the fire that added it (R129). -/
structure CyclicEnd where
  channel : Nat
  after   : Level
  index   : Nat
  instant : NT
  since   : Nat
  deriving DecidableEq, Repr

/-- A bank: 32 places, each empty or holding a cyclic entry (R120). -/
abbrev Bank := Vector (Option CyclicEntry) 32

/-- The cycle unit (07). -/
structure CycleUnit where
  bankA       : Bank
  bankB       : Bank
  running     : BankName
  staged      : Staged
  pendingSwap : Option Word16
  generation  : Word16
  skip        : Bool
  fireList    : List CyclicDue
  pulseEnds   : List CyclicEnd
  held        : Bool
  deriving DecidableEq, Repr

/-- R120. -/
def CycleUnit.reset : CycleUnit where
  bankA := Vector.replicate 32 none
  bankB := Vector.replicate 32 none
  running := .a
  staged := .empty
  pendingSwap := none
  generation := 0
  skip := false
  fireList := []
  pulseEnds := []
  held := true

/-! ### Hold unit -/

/-- The hold unit (R147). `lineDue` is set from the fourth differing sample until the line state is accepted
(assumption 24). -/
structure HoldUnit where
  held           : Bool
  reasonSync     : Bool
  reasonLine     : Bool
  reasonCommand  : Bool
  releasePending : Bool
  lineActive     : Bool
  lineRun        : Nat
  lineDue        : Bool
  deriving DecidableEq, Repr

/-- R147. -/
def HoldUnit.reset : HoldUnit where
  held := true
  reasonSync := true
  reasonLine := false
  reasonCommand := false
  releasePending := false
  lineActive := false
  lineRun := 0
  lineDue := false

/-! ### Request unit -/

/-- The state of an outbound record (R164). -/
inductive OutState where
  | queued
  | awaiting
  | accepted
  deriving DecidableEq, Repr

/-- An outbound record (R164). -/
structure OutRecord where
  tag             : Octet
  target          : Nat
  channel         : Nat
  state           : OutState
  cancelRequested : Bool
  roundSent       : Option Word16
  deriving DecidableEq, Repr

/-- The request unit (09). -/
structure RequestUnit where
  table       : Vector (Option OutRecord) 16
  tagCounter  : Octet
  unsolicited : Word16
  deriving DecidableEq, Repr

/-- R164. -/
def RequestUnit.reset : RequestUnit where
  table := Vector.replicate 16 none
  tagCounter := 0
  unsolicited := 0

/-! ### Attach port and notice unit -/

/-- The attach-port commands (R186). -/
inductive Cmd where
  | loadProfile | start | status | readTime | readPeer | readChannel | readProfile
  | arm | cancel | readEntry
  | armRemote | cancelRemote | readOutbound
  | stageEntry | clearStaged | markReady | readBank | proposeSwap
  | ringStatus | readRing | releaseRing
  | hold | release
  | readNotices | ackNotices | setNoticeMask
  | softReset
  deriving DecidableEq, Repr

/-- The transaction states (10.1.2). -/
inductive Transaction where
  | idle
  /-- SEL_N was LOW as a reset was taken: the port waits to see it HIGH (R197). -/
  | awaitHigh
  | command
  | operands (cmd : Cmd) (got : List Octet)
  /-- The step from which the answer is ready, whether it is ready, and the octets not yet on SDO: the result octet,
  then the data. -/
  | answer (readyAt : Nat) (ready : Bool) (left : List Octet)
  | trailing
  deriving DecidableEq, Repr

/-- The attach port (10). -/
structure Port where
  transaction   : Transaction
  /-- Octets completed in the transaction in progress. -/
  octetCount    : Nat
  /-- The octet being clocked out; none while SDO is undriven (R180). -/
  sdo           : Option Octet
  previousShort : Bool
  /-- The 216 octets of the loaded profile (R187, R191). -/
  loaded        : Option (List Octet)
  started       : Bool
  /-- A SOFT_RESET is due at the rise of SEL_N (R198). -/
  resetDue      : Bool
  /-- A READ_TIME has been taken in this step, and its values are still those of the moment (R15; assumption 37). -/
  timeDue       : Bool
  deriving DecidableEq, Repr

/-- R197. -/
def Port.reset : Port where
  transaction := .idle
  octetCount := 0
  sdo := none
  previousShort := false
  loaded := none
  started := false
  resetDue := false
  timeDue := false

/-- The notice unit: cause sets as in 10.7.8 (R192). -/
structure NoticeUnit where
  pending  : Word16
  raised   : Word16
  reported : Word16
  mask     : Word16
  deriving DecidableEq, Repr

/-- R192. -/
def NoticeUnit.reset : NoticeUnit where
  pending := 0
  raised := 0
  reported := 0
  mask := 0

/-! ### The station -/

/-- The input pins in the current step: CH0 to CH7 (bit c for channel c), HOLD, and whether SEL_N is LOW. -/
structure Pins where
  lines  : Octet
  hold   : Level
  selLow : Bool
  deriving DecidableEq, Repr

/-- The whole state of the station. -/
structure State where
  pins       : Pins
  /-- The station is held in reset (R197). -/
  inReset    : Bool
  /-- The profile as the blocks took it at START (R189). -/
  profile    : Profile
  timebase   : Timebase
  roundCtl   : RoundCtl
  channels   : Vector Channel 8
  journal    : Journal
  action     : ActionUnit
  cycle      : CycleUnit
  hold       : HoldUnit
  request    : RequestUnit
  port       : Port
  notice     : NoticeUnit
  /-- How many free values have been used: the model's own field (assumptions 13 and 14). -/
  freeCount  : Nat
  /-- The commands waiting, first in first out (assumption 1). -/
  pending    : List Instr
  deriving DecidableEq, Repr

/-- The machine right after reset (R197). The pins are a DESIGN CHOICE (assumption 16). -/
def State.reset : State where
  pins := { lines := 0, hold := .low, selLow := false }
  inReset := false
  profile := Profile.none
  timebase := Timebase.reset
  roundCtl := RoundCtl.reset
  channels := Vector.replicate 8 Channel.reset
  journal := Journal.reset
  action := ActionUnit.reset
  cycle := CycleUnit.reset
  hold := HoldUnit.reset
  request := RequestUnit.reset
  port := Port.reset
  notice := NoticeUnit.reset
  freeCount := 0
  pending := []

/-- Why a step could stop with a fault. The manual gives the station no stop: no command raises one. -/
inductive Fault where
  deriving DecidableEq, Repr

/-- Why a command could be refused. -/
inductive Refusal where
  /-- Raised by an arm of `exec` whose command has no meaning yet; no arm does. Safe. -/
  | notModelled (mnemonic : String)
  deriving DecidableEq, Repr

end Sys2Proof.Machine
end

