-- ==== Sys2Proof/Machine/Ops.lean ====
section
/-! DEFINITION. Comparisons of instants and round numbers, tables, ordering, and the journal memory. -/

namespace Sys2Proof.Machine

/-! ### Instants and numbers -/

/-- a is before b: (b − a) mod 2^48 lies in 1..2^47 − 1 (00_scope.md 3.1). -/
def ntBefore (a b : NT) : Bool :=
  decide (1 ≤ (b - a).toNat ∧ (b - a).toNat < 2 ^ 47)

/-- a is after b when b is before a (00_scope.md 3.1). -/
def ntAfter (a b : NT) : Bool := ntBefore b a

/-- Not before means after or equal (00_scope.md 3.1). -/
def ntNotBefore (a b : NT) : Bool := a == b || ntAfter a b

/-- The step whose NT is `now` reaches the awaited instant t: (t − NT) mod 2^48 is 0 or at least 2^47 (R4). -/
def reached (now t : NT) : Bool :=
  decide ((t - now).toNat = 0 ∨ 2 ^ 47 ≤ (t - now).toNat)

/-- A sum of an instant and a span, modulo 2^48. -/
def ntAdd (t : NT) (ns : Nat) : NT := t + BitVec.ofNat 48 ns

/-- The difference a − b read in −2^47..2^47 − 1 (R8). -/
def ntDiff (a b : NT) : Int := (a - b).toInt

/-- Round a is before round b: (b − a) mod 65,536 lies in 1..32,767 (00_scope.md 3.2); likewise for mark
sequences. -/
def numBefore (a b : Word16) : Bool :=
  decide (1 ≤ (b - a).toNat ∧ (b - a).toNat < 2 ^ 15)

/-- A 16-bit counter that stops at 65,535, raised by n. -/
def satAdd16 (c : Word16) (n : Nat) : Word16 := BitVec.ofNat 16 (min (c.toNat + n) 65535)

/-- A 32-bit counter that stops at 4,294,967,295, raised by n. -/
def satAdd32 (c : Word32) (n : Nat) : Word32 := BitVec.ofNat 32 (min (c.toNat + n) 4294967295)

/-- The opposite level. -/
def oppositeLevel : Level → Level
  | .low => .high
  | .high => .low

/-- The level a bit shows: 0 LOW, 1 HIGH (R199). -/
def levelOfBit (b : Bool) : Level := if b then .high else .low

/-- The set with station or channel number i added. -/
def setAdd (set : Word16) (i : Nat) : Word16 := set ||| BitVec.ofNat 16 (2 ^ i)

/-! ### Tables of a fixed length -/

/-- The table with place i, where there is one, changed by f. -/
def tableUpdate {α : Type} {n : Nat} (v : Vector α n) (i : Nat) (f : α → α) : Vector α n :=
  if h : i < n then v.set i (f v[i]) else v

/-- The table with every place changed by f. -/
def tableMap {α β : Type} {n : Nat} (f : α → β) (v : Vector α n) : Vector β n :=
  ⟨⟨v.toArray.toList.map f⟩, by simp⟩

/-- The places 0..n − 1 whose content satisfies p, in ascending order. -/
def placesWhere {α : Type} {n : Nat} (v : Vector α n) (p : α → Bool) : List Nat :=
  (List.range n).filter fun i => (v[i]?).any p

/-! ### Ordering -/

/-- Insertion before the first element that x precedes. -/
def insertOrdered {α : Type} (precedes : α → α → Bool) (x : α) : List α → List α
  | [] => [x]
  | y :: ys => if precedes x y then x :: y :: ys else y :: insertOrdered precedes x ys

/-- The list in order; elements of which neither precedes the other keep their order. -/
def sortOrdered {α : Type} (precedes : α → α → Bool) (l : List α) : List α :=
  l.foldl (fun acc x => insertOrdered precedes x acc) []

/-! ### The journal memory -/

/-- What an address that the memory does not list reads as (assumption 15: DESIGN CHOICE; the manual says that such
contents are not visible, R76). -/
def Memory.unlisted : Octet := 0

/-- The octet at an address. -/
def Memory.read : List Host.Cell → Nat → Octet
  | [], _ => Memory.unlisted
  | (b, w) :: rest, a => if a = b then w else Memory.read rest a

/-- The memory with the octet v at address a; the canonical form is kept. -/
def Memory.write : List Host.Cell → Nat → Octet → List Host.Cell
  | [], a, v => if v = Memory.unlisted then [] else [(a, v)]
  | (b, w) :: rest, a, v =>
    if a < b then (if v = Memory.unlisted then (b, w) :: rest else (a, v) :: (b, w) :: rest)
    else if a = b then (if v = Memory.unlisted then rest else (a, v) :: rest)
    else (b, w) :: Memory.write rest a v

/-- The canonical form: addresses strictly rising, and no cell equal to what an unlisted address reads as. -/
abbrev Memory.wf (m : List Host.Cell) : Prop :=
  m.Pairwise (fun x y => x.1 < y.1) ∧ ∀ c ∈ m, c.2 ≠ Memory.unlisted

/-- The memory with octets written from address a on. -/
def Memory.writeAll : List Host.Cell → Nat → List Octet → List Host.Cell
  | m, _, [] => m
  | m, a, v :: vs => Memory.writeAll (Memory.write m a v) (a + 1) vs

/-- n octets from address a on. -/
def Memory.readAll (m : List Host.Cell) (a n : Nat) : List Octet :=
  (List.range n).map fun k => Memory.read m (a + k)

end Sys2Proof.Machine
end

