-- ==== Sys2Proof/Machine/Flags.lean ====
section
/-! DEFINITION. Notice causes, the raising of a cause, the output pins computed from the state, and the flags of the
synchronization states. -/

namespace Sys2Proof.Machine

/-- The notice causes (10.7.8). -/
inductive Cause where
  | syncChange | timeJump | correctionLimit | unheard | coldstartFail | peerChange | duplicateStation | holdChange
  | ringLow | ringLost | reportReady | sendOverflow | swapDone | swapSkipped | swapStale
  deriving DecidableEq, Repr

/-- The bit of a cause in a cause set (10.7.8). -/
def Cause.bit : Cause → Nat
  | .syncChange => 0
  | .timeJump => 1
  | .correctionLimit => 2
  | .unheard => 3
  | .coldstartFail => 4
  | .peerChange => 5
  | .duplicateStation => 6
  | .holdChange => 7
  | .ringLow => 8
  | .ringLost => 9
  | .reportReady => 10
  | .sendOverflow => 11
  | .swapDone => 12
  | .swapSkipped => 13
  | .swapStale => 14

/-- The set of one cause. -/
def Cause.mask (c : Cause) : Word16 := BitVec.ofNat 16 (2 ^ c.bit)

/-- A block raises a cause: it joins the pending set and the raised-since-read set (R192). -/
def raise (c : Cause) (s : State) : State :=
  { s with notice := { s.notice with pending := s.notice.pending ||| c.mask, raised := s.notice.raised ||| c.mask } }

/-- NOTICE_N is driven LOW while the pending set and the mask have a cause in common (R193). -/
def State.noticeLow (s : State) : Bool := s.notice.pending &&& s.notice.mask != 0

/-- BTXEN is enabled while the own frame is in flight (R38, R39, R60). -/
def State.btxEnabled (s : State) : Bool := s.roundCtl.inFlight.isSome

/-- The bit at a place of a line octet: dominant start bit, eight data bits with the least significant first, recessive
stop bit (R37). True is recessive. -/
def lineBit (o : Octet) (place : Nat) : Bool :=
  if place = 0 then false else if place = 9 then true else o.getLsbD (place - 1)

/-- The own frame's bit with a number, counted from the start bit of the start delimiter; true is recessive (R37). -/
def OwnFrame.bitAt (f : OwnFrame) (bit : Nat) : Bool := lineBit (f.octets.getD (bit / 10) 0xFF) (bit % 10)

/-- The bit on BTX in this step, true for recessive; none while the transmitter is not enabled (R37). -/
def State.btx (s : State) : Option Bool :=
  s.roundCtl.inFlight.map fun f => f.bitAt ((s.timebase.stepNo - f.begun) / s.profile.bitPeriods)

/-- Reference periods that a frame of k octets takes on the line (R37). -/
def framePeriods (p : Profile) (octets : Nat) : Nat := octets * 10 * p.bitPeriods

/-- The states in which rounds run (R5). -/
def roundsRun : Sync → Bool
  | .off => false
  | .listen => false
  | .coldstart => true
  | .joining => true
  | .synced => true
  | .holdover => true

/-- The end of the current round (R6). -/
def roundEndInstant (s : State) : NT := ntAdd s.timebase.rs s.profile.period

/-- The step has reached the end of the current round, and that end has not been taken (R6). -/
def roundEndDue (s : State) : Bool := roundsRun s.timebase.sync && reached s.timebase.nt (roundEndInstant s)

/-- The states in which the station's time is trusted: marks are synced (R68), items are handed on (R33), the cycle unit
forms fire lists (R127). -/
def trusted : Sync → Bool
  | .off => false
  | .listen => false
  | .coldstart => false
  | .joining => false
  | .synced => true
  | .holdover => true

/-- The reason set as a coded value: bit 0 SYNC, bit 1 LINE, bit 2 COMMAND (R199). The other bits of its octet, which no
rule names, are 0 (DESIGN CHOICE, assumption 18). -/
def HoldUnit.reasons (h : HoldUnit) : Nat :=
  h.reasonSync.toNat + 2 * h.reasonLine.toNat + 4 * h.reasonCommand.toNat

/-- No reason stands. -/
def HoldUnit.noReason (h : HoldUnit) : Bool := !h.reasonSync && !h.reasonLine && !h.reasonCommand

end Sys2Proof.Machine
end

