-- ==== Sys2Proof/Machine/Operands.lean ====
section
/-! DEFINITION. The octet layouts of 10.7: fields, items, frames with their check sequence, ring records, cyclic entries. -/

namespace Sys2Proof.Machine

/-! ### Fields (R199) -/

/-- The octet of a number below 256. -/
def octetOf (n : Nat) : Octet := BitVec.ofNat 8 n

/-- A number in k octets, least significant octet first. -/
def le : Nat → Nat → List Octet
  | 0, _ => []
  | k + 1, n => octetOf n :: le k (n / 256)

/-- The number that octets give, least significant octet first. -/
def leValue : List Octet → Nat
  | [] => 0
  | o :: rest => o.toNat + 256 * leValue rest

/-- A signed value in k octets, two's complement. -/
def leSigned (k : Nat) (v : Int) : List Octet := le k (BitVec.ofInt (8 * k) v).toNat

/-- The octet at an offset. -/
def octetAt (os : List Octet) (i : Nat) : Octet := os.getD i 0

/-- The number in k octets at an offset. -/
def fieldAt (os : List Octet) (i k : Nat) : Nat := leValue ((os.drop i).take k)

/-- An NT value at an offset. -/
def ntAt (os : List Octet) (i : Nat) : NT := BitVec.ofNat 48 (fieldAt os i 6)

/-- A 16-bit value at an offset. -/
def word16At (os : List Octet) (i : Nat) : Word16 := BitVec.ofNat 16 (fieldAt os i 2)

/-- A 32-bit value at an offset. -/
def word32At (os : List Octet) (i : Nat) : Word32 := BitVec.ofNat 32 (fieldAt os i 4)

/-- k fill octets. -/
def zeros (k : Nat) : List Octet := List.replicate k 0

/-- A flag as an octet. -/
def flagOctet (b : Bool) : Octet := if b then 1 else 0

/-- A presence octet and the field's k octets; an absent field's octets are 0x00 (R186). -/
def optional (k : Nat) : Option Nat → List Octet
  | none => 0 :: zeros k
  | some n => 1 :: le k n

/-- An octet whose bits are given, bit 0 first. -/
def bitsOctet (bits : List Bool) : Octet := octetOf (bits.foldr (fun b n => b.toNat + 2 * n) 0)

def levelCode : Level → Nat
  | .low => 0
  | .high => 1

def edgeCode : Edge → Nat
  | .rising => 0
  | .falling => 1

def edgeSelCode : EdgeSel → Nat
  | .rising => 0
  | .falling => 1
  | .either => 2

/-- The edge select that a code names. -/
def edgeSelOf (o : Octet) : Option EdgeSel :=
  if o = 0 then some .rising else if o = 1 then some .falling else if o = 2 then some .either else none

def syncCode : Sync → Nat
  | .off => 0
  | .listen => 1
  | .coldstart => 2
  | .joining => 3
  | .synced => 4
  | .holdover => 5

def outStateCode : OutState → Nat
  | .queued => 0
  | .awaiting => 1
  | .accepted => 2

def peerStateCode : PeerState → Nat
  | .absent => 0
  | .heard => 1
  | .lost => 2

def stagedCode : Staged → Nat
  | .empty => 0
  | .editing => 1
  | .ready => 2

/-! ### Codes of results, refusals, outcomes and completions (R185, R199) -/

def Code.done : Octet := 0x01
def Code.refusedState : Octet := 0x10
def Code.refusedFull : Octet := 0x11
def Code.refusedLate : Octet := 0x12
def Code.refusedHeld : Octet := 0x13
def Code.refusedChannel : Octet := 0x14
def Code.refusedPermission : Octet := 0x15
def Code.refusedDuplicate : Octet := 0x16
def Code.invalid : Octet := 0x20
def Code.notFound : Octet := 0x21
def Code.holdReasons : Octet := 0x22
def Code.profileError : Octet := 0x23
def Code.unknownCommand : Octet := 0x24
def Code.short : Octet := 0x25
def Code.fired : Octet := 0x30
def Code.missed : Octet := 0x31
def Code.expired : Octet := 0x32
def Code.cancelled : Octet := 0x33
def Code.blocked : Octet := 0x34
def Code.noReply : Octet := 0x36
def Code.orphaned : Octet := 0x37
def Code.abandoned : Octet := 0x38
def Code.withdrawn : Octet := 0x39
def Code.ack : Octet := 0x3A

/-- The refusal codes that a REFUSED report carries (R168, R169). -/
def Code.ofRefused : List Octet :=
  [Code.refusedChannel, Code.refusedPermission, Code.refusedHeld, Code.refusedDuplicate, Code.invalid, Code.refusedFull,
    Code.refusedLate]

/-- The codes that an OUTCOME report carries (R168, R169). -/
def Code.ofOutcome : List Octet :=
  [Code.fired, Code.missed, Code.expired, Code.cancelled, Code.blocked, Code.notFound]

/-- The kinds of a REPORT item (10.7.3). -/
def ReportKind.ack : Octet := 0
def ReportKind.refused : Octet := 1
def ReportKind.outcome : Octet := 2

/-! ### Items (10.7.3) -/

/-- The fields that octets 4 to 31 of an ARM item give; `os` begins at octet 4. Bits 6 and 7 of octet 4 are not read
(assumption 18), and with an AT trigger neither is bit 5, which then goes out as 0 (DESIGN CHOICE, assumption 39). -/
def armFieldsOf (os : List Octet) : ArmFields :=
  let flags := octetAt os 0
  { trigger :=
      if flags.getLsbD 0 then
        .onMark (octetAt os 12) (octetAt os 13) (octetAt os 14) (word32At os 16)
          (if flags.getLsbD 5 then some (word16At os 20) else none)
      else .atTime (ntAt os 12) (word32At os 18)
    effect := flags.toNat / 2 % 4
    level := levelOfBit (flags.getLsbD 3)
    repeats := (octetAt os 1).toNat
    expiry := if flags.getLsbD 4 then some (ntAt os 2) else none
    width := word32At os 8 }

/-- Octets 4 to 31 of an ARM item; fill octets and the octets of absent optional fields are 0x00 (R199). -/
def armFieldOctets (f : ArmFields) : List Octet :=
  let onMark := match f.trigger with
    | .atTime _ _ => false
    | .onMark _ _ _ _ _ => true
  let minPresent := match f.trigger with
    | .atTime _ _ => false
    | .onMark _ _ _ _ m => m.isSome
  let flags := onMark.toNat + 2 * (f.effect % 4) + 8 * levelCode f.level + 16 * f.expiry.isSome.toNat +
    32 * minPresent.toNat
  [octetOf flags, octetOf f.repeats] ++ le 6 ((f.expiry.getD 0).toNat) ++ le 4 f.width.toNat ++
    match f.trigger with
    | .atTime t i => le 6 t.toNat ++ le 4 i.toNat ++ zeros 6
    | .onMark st ch e d m => [st, ch, e, 0] ++ le 4 d.toNat ++ le 2 ((m.getD 0).toNat) ++ zeros 6

/-- The size of an item in octets (R41). -/
def Item.size : Item → Nat
  | .mark _ => 16
  | .arm _ _ _ _ => 32
  | .cancel _ _ => 8
  | .report _ => 24

/-- The item is a REPORT item: four places of the send queue are kept for these (R42). -/
def Item.isReport : Item → Bool
  | .mark _ => false
  | .arm _ _ _ _ => false
  | .cancel _ _ => false
  | .report _ => true

/-- The octets of an item. Bits of its coded octets that 10.7.3 does not name are sent as 0 (DESIGN CHOICE, assumption 18). -/
def itemOctets : Item → List Octet
  | .mark m =>
    [0x11, octetOf m.station, octetOf m.channel, octetOf (edgeCode m.edge + 2 * m.unsynced.toNat)] ++
      le 2 m.seq.toNat ++ le 6 m.time.toNat ++ zeros 4
  | .arm target channel tag f => [0x22, octetOf target, octetOf channel, tag] ++ armFieldOctets f
  | .cancel target tag => [0x33, octetOf target, tag] ++ zeros 5
  | .report r =>
    [0x44, octetOf r.requester, r.tag, r.kind, r.code, octetOf (r.lastFire.isSome.toNat + 2 * r.detail.isSome.toNat)] ++
      le 2 r.fireCount.toNat ++ le 6 ((r.lastFire.getD 0).toNat) ++ le 2 ((r.detail.getD 0).toNat) ++ zeros 8

/-- The item that an octet list begins with, and the octets after it; none when its kind is no item's or octets are
missing (R47). Bits of octet 3 of a MARK and of octet 5 of a REPORT that 10.7.3 does not name are not read (DESIGN CHOICE,
assumption 18). -/
def itemOf (os : List Octet) : Option (Item × List Octet) :=
  let kind := octetAt os 0
  if kind = 0x11 then
    if os.length < 16 then none
    else some
      (.mark
        { station := (octetAt os 1).toNat
          channel := (octetAt os 2).toNat
          edge := if (octetAt os 3).getLsbD 0 then .falling else .rising
          seq := word16At os 4
          time := ntAt os 6
          unsynced := (octetAt os 3).getLsbD 1 }, os.drop 16)
  else if kind = 0x22 then
    if os.length < 32 then none
    else some
      (.arm (octetAt os 1).toNat (octetAt os 2).toNat (octetAt os 3) (armFieldsOf ((os.take 32).drop 4)), os.drop 32)
  else if kind = 0x33 then
    if os.length < 8 then none else some (.cancel (octetAt os 1).toNat (octetAt os 2), os.drop 8)
  else if kind = 0x44 then
    if os.length < 24 then none
    else some
      (.report
        { requester := (octetAt os 1).toNat
          tag := octetAt os 2
          kind := octetAt os 3
          code := octetAt os 4
          lastFire := if (octetAt os 5).getLsbD 0 then some (ntAt os 8) else none
          fireCount := word16At os 6
          detail := if (octetAt os 5).getLsbD 1 then some (word16At os 14) else none }, os.drop 24)
  else none

/-- The items of a body of k items, which must end with the octets. -/
def itemsOf : Nat → List Octet → Option (List Item)
  | 0, [] => some []
  | 0, _ :: _ => none
  | k + 1, os =>
    match itemOf os with
    | none => none
    | some (i, rest) => (itemsOf k rest).map (i :: ·)

/-! ### Frames (10.7.2) and the check sequence (R47) -/

/-- One data bit into the check register: generator x^32 + x^26 + x^23 + x^22 + x^16 + x^12 + x^11 + x^10 + x^8 + x^7 +
x^5 + x^4 + x^2 + x + 1, the coefficient of x^31 leaving first (R47). -/
def crcBit (reg : Word32) (bit : Bool) : Word32 :=
  if reg.getLsbD 31 != bit then (reg <<< 1) ^^^ 0x04C11DB7 else reg <<< 1

/-- The data bits of an octet in the order they are sent, least significant first (R37). -/
def lineBits (o : Octet) : List Bool := (List.range 8).map o.getLsbD

/-- The complemented check register over octets, preset to all ones (R47). -/
def crcRegister (os : List Octet) : Word32 := ~~~((os.flatMap lineBits).foldl crcBit 0xFFFFFFFF)

/-- The four check-sequence octets: the coefficient of x^31 is the first bit sent (R47). -/
def checkSequence (os : List Octet) : List Octet :=
  let reg := crcRegister os
  (List.range 4).map fun j => bitsOctet ((List.range 8).map fun i => reg.getLsbD (31 - (8 * j + i)))

/-- A frame's header and items (R40, R41). -/
structure Frame where
  clusterTag  : Word16
  sender      : Nat
  startup     : Bool
  synced      : Bool
  holdover    : Bool
  held        : Bool
  swapSkipped : Bool
  pendingSwap : Option Word16
  generation  : Word16
  round       : Word16
  roundStart  : NT
  heard       : Word16
  items       : List Item
  deriving DecidableEq, Repr

/-- The octets between the start delimiter and the check sequence. Bits 5 to 7 of the flags octet are sent as 0 (DESIGN
CHOICE, assumption 18). -/
def frameBodyOctets (f : Frame) : List Octet :=
  le 2 f.clusterTag.toNat ++ [octetOf f.sender, if f.startup then 0x01 else 0x02] ++
    [bitsOctet [f.synced, f.holdover, f.held, f.swapSkipped, f.pendingSwap.isSome]] ++ le 2 f.round.toNat ++
    le 6 f.roundStart.toNat ++ le 2 ((f.pendingSwap.getD 0).toNat) ++ le 2 f.generation.toNat ++ le 2 f.heard.toNat ++
    [octetOf f.items.length] ++ zeros 3 ++ f.items.flatMap itemOctets

/-- The octets of a frame as it is sent (R37). -/
def frameOctets (f : Frame) : List Octet :=
  0x6B :: (frameBodyOctets f ++ checkSequence (frameBodyOctets f))

/-- The frame that received octets give; none for a reception that R47 fails, or whose check sequence does not match:
a garbled frame (assumption 31). Bits 5 to 7 of the flags octet are not read (DESIGN CHOICE, assumption 18). -/
def frameOf (bodyBudget : Nat) (os : List Octet) : Option Frame :=
  let body := (os.take (os.length - 4)).drop 24
  let startup := octetAt os 4 = 0x01
  let count := (octetAt os 20).toNat
  if os.length < 28 then none
  else if octetAt os 0 ≠ 0x6B then none
  else if ¬ startup ∧ octetAt os 4 ≠ 0x02 then none
  else if startup ∧ count ≠ 0 then none
  else if bodyBudget < body.length then none
  else if checkSequence ((os.take (os.length - 4)).drop 1) ≠ os.drop (os.length - 4) then none
  else
    (itemsOf count body).map fun items =>
      let flags := octetAt os 5
      { clusterTag := word16At os 1
        sender := (octetAt os 3).toNat
        startup := startup
        synced := flags.getLsbD 0
        holdover := flags.getLsbD 1
        held := flags.getLsbD 2
        swapSkipped := flags.getLsbD 3
        pendingSwap := if flags.getLsbD 4 then some (word16At os 14) else none
        generation := word16At os 16
        round := word16At os 6
        roundStart := ntAt os 8
        heard := word16At os 18
        items := items }

/-- A reference frame: STARTUP, or REGULAR with the synced flag set (R9). -/
def Frame.isReference (f : Frame) : Bool := f.startup || f.synced

/-! ### Ring records (10.7.4) -/

/-- A MARK record with its lost-before (R77). Bits 4 to 7 of octet 0, which no rule names, are 0 (DESIGN CHOICE, assumption
18). -/
def markRecord (m : Mark) (fromPeer : Bool) (lostBefore : Nat) : List Octet :=
  [bitsOctet [false, fromPeer, m.unsynced, decide (m.edge = .falling)], octetOf lostBefore, octetOf m.station,
    octetOf m.channel] ++ le 2 m.seq.toNat ++ le 6 m.time.toNat ++ zeros 4

/-- Where a REPORT record comes from (R78). -/
inductive Origin where
  | localAction
  | outbound
  | unsolicited
  deriving DecidableEq, Repr

def Origin.code : Origin → Nat
  | .localAction => 0
  | .outbound => 1
  | .unsolicited => 2

/-- A report as it is handed to the journal unit (R78). -/
structure ReportRecord where
  origin    : Origin
  station   : Nat
  channel   : Option Nat
  tag       : Octet
  index     : Option Nat
  code      : Octet
  fireCount : Option Nat
  lastFire  : Option NT
  detail    : Option Word16
  deriving DecidableEq, Repr

/-- A REPORT record with its lost-before; it keeps the low 4 octets of the last fire time (R78). -/
def reportRecord (r : ReportRecord) (lostBefore : Nat) : List Octet :=
  let flags := 1 + 2 * r.origin.code + 8 * r.lastFire.isSome.toNat + 16 * r.detail.isSome.toNat +
    32 * r.fireCount.isSome.toNat + 64 * r.channel.isSome.toNat + 128 * r.index.isSome.toNat
  [octetOf flags, octetOf lostBefore, octetOf r.station, octetOf (r.channel.getD 0), r.tag, octetOf (r.index.getD 0),
    r.code, 0] ++ le 2 (r.fireCount.getD 0) ++ le 2 ((r.detail.getD 0).toNat) ++ le 4 ((r.lastFire.getD 0).toNat)

/-! ### Cyclic entries (10.7.5) -/

/-- The cyclic entry that 12 octets give when R123 accepts it. Bits 3 to 7 of octet 5 are not read (assumption 18). -/
def cyclicEntryOf (os : List Octet) : Option CyclicEntry :=
  let code := (octetAt os 5).toNat % 4
  let level := levelOfBit ((octetAt os 5).getLsbD 2)
  let width := word32At os 6
  let e := (octetAt os 10).toNat
  let p := (octetAt os 11).toNat
  if 8 ≤ (octetAt os 0).toNat ∨ code = 3 ∨ (code = 2 ∧ width.toNat < 25) ∨ 6 < e ∨ 2 ^ e ≤ p then none
  else some
    { channel := (octetAt os 0).toNat
      offset := word32At os 1
      effect := if code = 0 then .set level else if code = 1 then .toggle else .pulse level width
      exp := e
      phase := p }

/-- The octets of a cyclic entry (10.7.5). The width octets of a SET or TOGGLE and the level bit of a TOGGLE are 0 (DESIGN
CHOICE, assumption 17), and so are bits 3 to 7 of octet 5 (DESIGN CHOICE, assumption 18). -/
def cyclicEntryOctets (c : CyclicEntry) : List Octet :=
  let (code, width) := match c.effect with
    | .set l => (4 * levelCode l, 0)
    | .toggle => (1, 0)
    | .pulse l w => (2 + 4 * levelCode l, w.toNat)
  [octetOf c.channel] ++ le 4 c.offset.toNat ++ [octetOf code] ++ le 4 width ++ [octetOf c.exp, octetOf c.phase]

end Sys2Proof.Machine
end

