-- ==== Sys2Proof/Machine/Journal.lean ====
section
/-! DEFINITION. The journal unit (05): rings, appending and loss, and the writers' hand-overs. -/

namespace Sys2Proof.Machine

/-- The ring position the next record takes (R76). -/
def Ring.writeIdx (r : Ring) : Nat := (r.readIdx + r.count) % r.defn.length

/-- The free places of a ring (R76). -/
def Ring.free (r : Ring) : Nat := r.defn.length - r.count

/-- The record place of a ring position (R76). Places are numbered modulo 2,048 (assumption 15). -/
def Ring.place (r : Ring) (position : Nat) : Nat := (r.defn.base + position) % Config.recordPlaces

/-- A record's 16 octets in the journal memory. -/
def recordAt (mem : List Host.Cell) (place : Nat) : List Octet := Memory.readAll mem (16 * place) 16

/-- The ring with number k, when it is defined and START has been taken. -/
def ringAt (s : State) (k : Nat) : Option Ring := (s.journal.rings[k]?).join

/-- The state with the journal's ring k replaced. -/
def setRing (k : Nat) (r : Ring) (s : State) : State :=
  { s with journal := { s.journal with rings := tableUpdate s.journal.rings k fun _ => some r } }

/-- A ring that is not full takes a record (R82, R85). -/
def writeRecord (k : Nat) (r : Ring) (octets : Nat → List Octet) (s : State) : State :=
  let record := octets (min r.pendingLoss.toNat 255)
  let r' := { r with count := r.count + 1, pendingLoss := 0 }
  let lowNow := decide (r'.free ≤ r.defn.low)
  let s1 := { s with journal := { s.journal with mem := Memory.writeAll s.journal.mem (16 * r.place r.writeIdx) record } }
  let s2 := setRing k { r' with lowRoom := r.lowRoom || lowNow } s1
  if lowNow && !r.lowRoom then raise .ringLow s2 else s2

/-- A full ring drops a record (R83). -/
def dropRecord (k : Nat) (r : Ring) (s : State) : State :=
  let s1 := setRing k
    { r with pendingLoss := satAdd16 r.pendingLoss 1, totalLost := satAdd32 r.totalLost 1, lossReported := true } s
  if r.lossReported then s1 else raise .ringLost s1

/-- Ring k takes a record: written, or dropped when the ring is full. An undefined ring takes nothing. -/
def takeRecord (k : Nat) (octets : Nat → List Octet) (s : State) : State :=
  match ringAt s k with
  | none => s
  | some r => if r.count < r.defn.length then writeRecord k r octets s else dropRecord k r s

/-- A local mark goes to the ring its channel names, if any (R79). -/
def journalLocalMark (ring : Option Nat) (m : Mark) (s : State) : State :=
  match ring with
  | none => s
  | some k => takeRecord k (markRecord m false) s

/-- Ring k selects a peer mark (R80). -/
def selectsPeerMark (r : Ring) (m : Mark) : Bool :=
  match r.defn.source with
  | .peerMarks stations channels => stations.getLsbD m.station && channels.getLsbD m.channel
  | .localChannel _ => false
  | .reports => false

/-- A peer mark goes to every PEER_MARKS ring that selects it (R80). -/
def journalPeerMark (m : Mark) (s : State) : State :=
  (List.range 8).foldl (fun s k =>
    if (ringAt s k).any (selectsPeerMark · m) then takeRecord k (markRecord m true) s else s) s

/-- The ring takes reports. -/
def Ring.takesReports (r : Ring) : Bool :=
  match r.defn.source with
  | .reports => true
  | .peerMarks _ _ => false
  | .localChannel _ => false

/-- The ring whose source is REPORTS. -/
def reportsRing (s : State) : Option Nat :=
  (List.range 8).find? fun k => (ringAt s k).any Ring.takesReports

/-- A report goes to the REPORTS ring, with REPORT_READY when it is written there; without such a ring it is counted
and discarded (R81). -/
def journalReport (r : ReportRecord) (s : State) : State :=
  match reportsRing s with
  | none => { s with journal := { s.journal with discarded := satAdd16 s.journal.discarded 1 } }
  | some k =>
    let s1 := takeRecord k (reportRecord r) s
    if (ringAt s k).any fun ring => decide (ring.count < ring.defn.length) then raise .reportReady s1 else s1

/-- Every ring's loss-reported flag is cleared (R84). -/
def clearLossFlags (s : State) : State :=
  { s with journal :=
      { s.journal with
        rings := tableMap (fun (r : Option Ring) => r.map fun r => { r with lossReported := false }) s.journal.rings } }

/-- The ring after a release of n records: the read index advances, the count falls, and low room is judged; a release
of 0 changes nothing (R89, R85). -/
def Ring.released (r : Ring) (n : Nat) : Ring :=
  if n = 0 then r
  else
    let r' := { r with readIdx := (r.readIdx + n) % r.defn.length, count := r.count - n }
    { r' with lowRoom := r.lowRoom && decide (r'.free ≤ r.defn.low) }

/-- The rings a profile defines, each with the running state of R76, as START sets them (R91). -/
def ringsAtStart (p : Profile) : Vector (Option Ring) 8 :=
  tableMap (fun (d : Option RingDef) => d.map fun d =>
    { defn := d, readIdx := 0, count := 0, lowRoom := false, pendingLoss := 0, totalLost := 0, lossReported := false })
    p.rings

end Sys2Proof.Machine
end

