-- ==== Sys2Proof/Machine/SendQueue.lean ====
section
/-! DEFINITION. The send queue of the round controller (3.3): offers, withdrawal, packing, purge. -/

namespace Sys2Proof.Machine

/-- The state with the send queue replaced. -/
def setQueue (q : List Item) (s : State) : State := { s with roundCtl := { s.roundCtl with queue := q } }

/-- The send queue has a place for the item (R42). -/
def queueTakes (q : List Item) (i : Item) : Bool :=
  if i.isReport then decide (q.length < Config.queuePlaces) else decide (q.length < Config.queueOpenPlaces)

/-- The offer of an ARM or CANCEL item: the new state when it is taken, none when it is refused (R42). -/
def offerRequest (i : Item) (s : State) : Option State :=
  if queueTakes s.roundCtl.queue i then some (setQueue (s.roundCtl.queue ++ [i]) s) else none

/-- The offer of a REPORT item: dropped, counted and notified when the queue is full (R42). -/
def offerReport (r : ReportItem) (s : State) : State :=
  if queueTakes s.roundCtl.queue (.report r) then setQueue (s.roundCtl.queue ++ [.report r]) s
  else raise .sendOverflow
    { s with roundCtl := { s.roundCtl with reportDrops := satAdd16 s.roundCtl.reportDrops 1 } }

/-- The offer of a MARK item by the channel that made it: a refusal counts a publish loss and raises SEND_OVERFLOW
(R42, R70). -/
def offerMark (channel : Nat) (m : Mark) (s : State) : State :=
  if queueTakes s.roundCtl.queue (.mark m) then setQueue (s.roundCtl.queue ++ [.mark m]) s
  else raise .sendOverflow
    { s with channels :=
        tableUpdate s.channels channel fun c => { c with publishLoss := satAdd16 c.publishLoss 1 } }

/-- How many items at the head of the queue are packed into the frame in flight (R42). -/
def packedCount (s : State) : Nat :=
  match s.roundCtl.inFlight with
  | none => 0
  | some f => f.packed

/-- The item is the ARM item for a target and tag. -/
def isArmFor (target : Nat) (tag : Octet) : Item → Bool
  | .arm t _ g _ => t == target && g == tag
  | .mark _ => false
  | .cancel _ _ => false
  | .report _ => false

/-- Withdrawal of an ARM item: the new state, or none when it is refused because the item is in flight (R43). -/
def withdrawArm (target : Nat) (tag : Octet) (s : State) : Option State :=
  let q := s.roundCtl.queue
  let at' := q.findIdx (isArmFor target tag)
  if at' < q.length ∧ packedCount s ≤ at' then some (setQueue (q.eraseIdx at') s) else none

/-- How many items from the head of the queue fit the body, `used` octets being taken already (R44). -/
def packCount (bodyBudget : Nat) : Nat → List Item → Nat
  | _, [] => 0
  | used, i :: rest => if used + i.size ≤ bodyBudget then packCount bodyBudget (used + i.size) rest + 1 else 0

/-- The purge on entry into LISTEN: MARK, ARM and CANCEL items are discarded and counted, REPORT items keep their
order; a frame in flight stays as built (R57). -/
def purgeQueue (s : State) : State :=
  let q := s.roundCtl.queue
  let kept := q.filter Item.isReport
  { s with roundCtl :=
      { s.roundCtl with
        queue := kept
        purged := satAdd16 s.roundCtl.purged (q.length - kept.length)
        inFlight := s.roundCtl.inFlight.map fun f =>
          { f with packed := ((q.take f.packed).filter Item.isReport).length } } }

end Sys2Proof.Machine
end

