-- ==== Sys2Proof/Machine/Channels.lean ====
section
/-! DEFINITION. Channel units: the drive side (8.1) with the settling of a step, and the capture filter (4.2). -/

namespace Sys2Proof.Machine

/-! ### Arm order -/

/-- Arm order: a is earlier than b when (b − a) mod 2^32 lies in 1..2^31 − 1; 2^31 apart the lower index is earlier (R94).
Of two entries with equal arm sequences, on which R94 is silent, the model takes the lower index as the earlier (DESIGN
CHOICE, assumption 34). -/
def armEarlier (a : Nat × Nat) (b : Nat × Nat) : Bool :=
  let d := (BitVec.ofNat 32 b.1 - BitVec.ofNat 32 a.1).toNat
  if d = 0 ∨ d = 2 ^ 31 then decide (a.2 < b.2) else decide (d < 2 ^ 31)

/-! ### The drive side -/

/-- The place of a kind among requests of one due instant (R143). -/
def ReqKind.rank : ReqKind → Nat
  | .cyclicEnd => 0
  | .armedEnd => 1
  | .cyclicStart => 2
  | .armedStart => 3

/-- The order key of requests of one kind: bank index, or arm order (R143). -/
def keyEarlier (a b : LevelReq) : Bool :=
  match a.kind with
  | .cyclicEnd => decide (a.key < b.key)
  | .cyclicStart => decide (a.key < b.key)
  | .armedEnd => armEarlier (a.key, a.index) (b.key, b.index)
  | .armedStart => armEarlier (a.key, a.index) (b.key, b.index)

/-- The order in which the requests of one step are applied: due instant, kind, key (R143). -/
def LevelReq.precedes (a b : LevelReq) : Bool :=
  if a.due ≠ b.due then ntBefore a.due b.due
  else if a.kind.rank ≠ b.kind.rank then decide (a.kind.rank < b.kind.rank)
  else keyEarlier a b

/-- The level after a request: the level asked for, or the inversion of the level found (R142, R144). -/
def LevelReq.apply (level : Option Level) (r : LevelReq) : Option Level :=
  match r.level with
  | some l => some l
  | none => level.map oppositeLevel

/-- The level that the step settles to (R143). Where the arm order of three or more armed requests of one due instant runs
in a circle, they are applied in the order that inserting them as they were taken gives (DESIGN CHOICE, assumption 34). -/
def Drive.settled (cfg : DriveCfg) (d : Drive) : Option Level :=
  if d.forced then some cfg.safe
  else
    (sortOrdered LevelReq.precedes d.requests).foldl LevelReq.apply (if d.released then some cfg.rest else d.baseLevel)

/-- The drive side with the step settled at NT `now`: a level other than at the end of the step before counts one change
(R143, R145). -/
def Drive.settle (now : NT) (cfg : DriveCfg) (d : Drive) : Drive :=
  let level := d.settled cfg
  if level = d.baseLevel then { d with level := level, changes := d.baseChanges, lastChange := d.baseLast }
  else { d with level := level, changes := d.baseChanges + 1, lastChange := some now }

/-- The drive side as a new step begins: nothing taken yet. -/
def Drive.newStep (d : Drive) : Drive :=
  { d with
    baseLevel := d.level, baseLast := d.lastChange, baseChanges := d.changes, released := false, requests := [] }

/-- A channel's role and settings. -/
def channelCfg (s : State) (c : Nat) : ChannelCfg := s.profile.channels[c]?.getD .unused

/-- The drive settings of a channel whose role is DRIVE. -/
def driveCfg (s : State) (c : Nat) : Option DriveCfg :=
  match channelCfg s c with
  | .drive d => some d
  | .capture _ => none
  | .unused => none

/-- The drive side of channel c, when its role is DRIVE, changed by f and settled. -/
def driveUpdate (c : Nat) (f : Drive → Drive) (s : State) : State :=
  match driveCfg s c with
  | none => s
  | some cfg =>
    { s with channels :=
        tableUpdate s.channels c fun ch => { ch with drive := (f ch.drive).settle s.timebase.nt cfg } }

/-- A channel takes a level-change request (R142). -/
def requestLevel (c : Nat) (r : LevelReq) (s : State) : State :=
  driveUpdate c (fun d => { d with requests := d.requests ++ [r] }) s

/-- Every DRIVE channel takes the force (R146). -/
def forceAll (s : State) : State :=
  (List.range 8).foldl (fun s c => driveUpdate c (fun d => { d with forced := true }) s) s

/-- Every DRIVE channel takes the release (R146); the step starts from the rest level. -/
def releaseAll (s : State) : State :=
  (List.range 8).foldl
    (fun s c => driveUpdate c (fun d => { d with forced := false, released := true, requests := [] }) s) s

/-- What a fire asks of its channel (R102, R128). -/
def Effect.startLevel : Effect → Option Level
  | .set l => some l
  | .toggle => none
  | .pulse l _ => some l

/-! ### The capture filter -/

/-- The filter takes a sample in the step number `step`, at NT `now` (R64). The sample that completes a settled run leaves
the edge to be accepted by EDGE_ACCEPTED (assumption 24). -/
def Filter.sample (filterLen step : Nat) (now : NT) (level : Level) (f : Filter) : Filter :=
  match f.accepted with
  | none =>
    let continues := f.run ≠ 0 ∧ level = f.candidate
    let run := if continues then f.run + 1 else 1
    if filterLen ≤ run then { f with accepted := some level, candidate := level, run := 0 }
    else if continues then { f with run := run }
    else { f with candidate := level, run := 1, runStart := now, runStep := step }
  | some acc =>
    if level = acc then { f with run := 0 }
    else
      let g := if f.run = 0 then { f with candidate := level, runStart := now, runStep := step } else f
      if filterLen ≤ f.run + 1 then { g with edgeDue := true } else { g with run := f.run + 1 }

/-- The first sample of the run under way fell in the step number `step`. -/
def Filter.begunIn (step : Nat) (f : Filter) : Bool := (f.run != 0 || f.edgeDue) && f.runStep == step

/-- The filter of a channel that takes its sample of this step after an adoption: a run that this sample began starts at the
adopted value (R65). -/
def Filter.adopted (step : Nat) (now : NT) (f : Filter) : Filter :=
  if f.begunIn step then { f with runStart := now } else f

/-- The channels of a set take their samples of this step after the adoption that has just been taken (R65). R65 leaves the
order open for each sample, and R67 has marks whose runs began in one step carry one timestamp; that the channels of the set
may be any, so that two channels can stand on different sides of the adoption, is the model's choice (DESIGN CHOICE,
assumption 7). -/
def sampledAfterAdoption (channels : Octet) (s : State) : State :=
  { s with channels :=
      (List.range 8).foldl (fun v c =>
        if channels.getLsbD c then
          tableUpdate v c fun ch => { ch with filter := ch.filter.adopted s.timebase.stepNo s.timebase.nt }
        else v) s.channels }

/-- A channel's line in this step. -/
def lineLevel (s : State) (c : Nat) : Level := levelOfBit (s.pins.lines.getLsbD c)

/-- A CAPTURE channel's unit takes a sample in this step. -/
def sampleChannel (c : Nat) (cfg : CaptureCfg) (s : State) : State :=
  { s with channels :=
      tableUpdate s.channels c fun ch =>
        { ch with phase := 0, filter := ch.filter.sample cfg.filterLen s.timebase.stepNo s.timebase.nt (lineLevel s c) } }

/-- A reference period passes for channel c: a CAPTURE unit samples once every 2^f periods (R63). -/
def capturePeriod (s : State) (c : Nat) : State :=
  match channelCfg s c with
  | .unused => s
  | .drive _ => s
  | .capture cfg =>
    if (s.channels[c]?).any fun ch => decide (2 ^ cfg.sampleExp ≤ ch.phase + 1) then sampleChannel c cfg s
    else { s with channels := tableUpdate s.channels c fun ch => { ch with phase := ch.phase + 1 } }

/-- A channel unit takes its role at START: a CAPTURE unit its first sample (R63, R73), a DRIVE unit its line at the safe
level, which is no change (R141). -/
def startChannel (s : State) (c : Nat) : State :=
  match channelCfg s c with
  | .unused => s
  | .capture cfg => sampleChannel c cfg s
  | .drive cfg =>
    { s with channels :=
        tableUpdate s.channels c fun ch =>
          { ch with drive := { ch.drive with level := some cfg.safe, baseLevel := some cfg.safe } } }

/-- The edge qualifies under the edge select (R66). -/
def edgeQualifies : EdgeSel → Edge → Bool
  | .either, _ => true
  | .rising, .rising => true
  | .rising, .falling => false
  | .falling, .rising => false
  | .falling, .falling => true

/-- The direction of an edge to a level (R64). -/
def edgeTo : Level → Edge
  | .high => .rising
  | .low => .falling

end Sys2Proof.Machine
end

