-- ==== Sys2Proof/Machine/Actions.lean ====
section
/-! DEFINITION. The action unit (06): arming, matching, firing, pulse ends, expiry, cancelling, hold, outcomes. -/

namespace Sys2Proof.Machine

/-! ### The armed list -/

/-- The entry at an index; none when it is FREE. -/
def entryAt (s : State) (i : Nat) : Option Entry := (s.action.entries[i]?).join

/-- The state with the place i of the armed list replaced. -/
def setEntry (i : Nat) (e : Option Entry) (s : State) : State :=
  { s with action := { s.action with entries := tableUpdate s.action.entries i fun _ => e } }

/-- The indices of the non-FREE entries that satisfy p, in ascending order. -/
def entriesWhere (p : Entry → Bool) (s : State) : List Nat := placesWhere s.action.entries fun e => e.any p

/-- The arm-order key of the entry at an index (R94). -/
def armKey (s : State) (i : Nat) : Nat × Nat := (((entryAt s i).map fun e => e.armSeq.toNat).getD 0, i)

/-- The entries that satisfy p, in arm order (R94). R94 compares two arm sequences at a time, and where those of three or
more entries span more than 2^31 its comparisons can run in a circle and give no sequence. The model then takes the one
that inserting the entries in ascending order of index gives, each before the first that it is earlier than (DESIGN
CHOICE, assumption 34). -/
def inArmOrder (p : Entry → Bool) (s : State) : List Nat :=
  sortOrdered (fun i j => armEarlier (armKey s i) (armKey s j)) (entriesWhere p s)

/-- The FREE entry with the lowest index (R98). -/
def freeEntry (s : State) : Option Nat := (placesWhere s.action.entries fun e => e.isNone).head?

/-! ### Ending an entry (6.7) -/

/-- The entry at index i ends with a code and a detail: it becomes FREE and its outcome is delivered, to the REPORTS ring
for the own station (R117), as a REPORT item for a peer (R118). -/
def endEntry (i : Nat) (code : Octet) (detail : Option Word16) (s : State) : State :=
  match entryAt s i with
  | none => s
  | some e =>
    let s1 := setEntry i none s
    if e.owner = s.profile.station then
      journalReport
        { origin := .localAction, station := e.owner, channel := some e.channel, tag := e.tag, index := some i,
          code := code, fireCount := some e.fireCount, lastFire := e.lastFire, detail := detail } s1
    else
      offerReport
        { requester := e.owner, tag := e.tag, kind := ReportKind.outcome, code := code, lastFire := e.lastFire,
          fireCount := BitVec.ofNat 16 e.fireCount, detail := detail } s1

/-! ### Firing (6.3) -/

/-- The entry at index i, with its fields as `e` has them, completes a fire that was due at `due` (R104). -/
def completeFire (i : Nat) (e : Entry) (due : NT) (s : State) : State :=
  if e.remaining = 0 then endEntry i Code.fired none (setEntry i (some e) s)
  else
    let e' := { e with remaining := e.remaining - 1 }
    match e.trigger with
    | .atTime _ interval =>
      let next := ntAdd due ((interval.getD 0).toNat)
      if e.expiry.any (ntAfter next ·) then endEntry i Code.expired none (setEntry i (some e') s)
      else setEntry i (some { e' with state := .scheduled next }) s
    | .onMark _ _ _ _ _ => setEntry i (some { e' with state := .waiting s.timebase.stepNo }) s

/-- The fire of the SCHEDULED entry at index i, due at `due` (R102; while held R113). -/
def fireEntry (i : Nat) (e : Entry) (due : NT) (s : State) : State :=
  if s.action.held then endEntry i Code.blocked none s
  else
    let s1 := requestLevel e.channel
      { kind := .armedStart, due := due, key := e.armSeq.toNat, index := i, level := e.effect.startLevel } s
    let e' := { e with fireCount := e.fireCount + 1, lastFire := some s.timebase.nt }
    match e.effect with
    | .set _ => completeFire i e' due s1
    | .toggle => completeFire i e' due s1
    | .pulse _ w =>
      setEntry i (some { e' with state := .active (ntAdd due w.toNat) s.timebase.stepNo false }) s1

/-- The SCHEDULED entries due in this step, in the order of the fire queue: (next fire time − now) mod 2^48, then arm
order (R101; assumption 8), by insertion where arm order runs in a circle (assumption 34). -/
def dueFires (s : State) : List (Nat × Entry × NT) :=
  let due := (List.range 48).filterMap fun i =>
    match entryAt s i with
    | none => none
    | some e =>
      match e.state with
      | .scheduled next => if reached s.timebase.nt next then some (i, e, next) else none
      | .waiting _ => none
      | .active _ _ _ => none
  sortOrdered (fun a b =>
    let da := (a.2.2 - s.timebase.nt).toNat
    let db := (b.2.2 - s.timebase.nt).toNat
    if da ≠ db then decide (da < db) else armEarlier (a.2.1.armSeq.toNat, a.1) (b.2.1.armSeq.toNat, b.1)) due

/-- FIRE: the first due entry of the fire queue fires (R101, R102). -/
def takeFire (s : State) : State :=
  match dueFires s with
  | [] => s
  | (i, e, due) :: _ => fireEntry i e due s

/-- The pulse end of the ACTIVE entry at index i, with the pulse end time `ends` (R103). -/
def endPulse (i : Nat) (e : Entry) (ends : NT) (cancelPending : Bool) (s : State) : State :=
  match e.effect with
  | .set _ => s
  | .toggle => s
  | .pulse level w =>
    let s1 := requestLevel e.channel
      { kind := .armedEnd, due := ends, key := e.armSeq.toNat, index := i, level := some (oppositeLevel level) } s
    if cancelPending then endEntry i Code.cancelled none s1 else completeFire i e (ends - w.setWidth 48) s1

/-- PULSE_END: taken from the step after the fire, once the pulse end time is reached (R103). -/
def takePulseEnd (i : Nat) (s : State) : State :=
  match entryAt s i with
  | none => s
  | some e =>
    match e.state with
    | .active ends since cancelPending =>
      if since < s.timebase.stepNo && reached s.timebase.nt ends then endPulse i e ends cancelPending s else s
    | .waiting _ => s
    | .scheduled _ => s

/-- EXPIRY: of a WAITING entry, from the step after it became WAITING (R105). In the step of an adoption it is judged by the NT
that stands when it is taken: the value before the jump when it is named before the frame, and the adopted one otherwise
(R3, R4; DESIGN CHOICE, assumption 42). -/
def takeExpiry (i : Nat) (s : State) : State :=
  match entryAt s i with
  | none => s
  | some e =>
    match e.state, e.expiry with
    | .waiting since, some x =>
      if since < s.timebase.stepNo && reached s.timebase.nt x then endEntry i Code.expired none s else s
    | .waiting _, none => s
    | .scheduled _, _ => s
    | .active _ _ _, _ => s

/-! ### Matching (6.4) -/

/-- The edge of a trigger admits the edge of a mark (R106). -/
def edgeMatches (sel : EdgeSel) (e : Edge) : Bool := edgeQualifies sel e

/-- A WAITING entry matches a mark (R106). -/
def entryMatches (m : Mark) (e : Entry) : Bool :=
  match e.trigger with
  | .atTime _ _ => false
  | .onMark station channel edge _ minSeq =>
    station == m.station && channel == m.channel && edgeMatches edge m.edge &&
      minSeq.all (fun q => decide ((m.seq - q).toNat < 2 ^ 15)) && e.lastUsed.all (fun u => numBefore u m.seq)

/-- The entry is WAITING. -/
def Entry.isWaiting (e : Entry) : Bool :=
  match e.state with
  | .waiting _ => true
  | .scheduled _ => false
  | .active _ _ _ => false

/-- A mark matches the WAITING entry at index i (R107). -/
def matchEntry (m : Mark) (i : Nat) (s : State) : State :=
  match entryAt s i with
  | none => s
  | some e =>
    match e.trigger with
    | .atTime _ _ => s
    | .onMark _ _ _ delay _ =>
      if e.isWaiting && entryMatches m e then
        let fireTime := ntAdd m.time delay.toNat
        let s1 := setEntry i (some { e with lastUsed := some m.seq }) s
        if ntBefore fireTime (ntAdd s.timebase.nt Config.margin) then endEntry i Code.missed (some m.seq) s1
        else if e.expiry.any (ntAfter fireTime ·) then endEntry i Code.expired none s1
        else if s.action.held then endEntry i Code.blocked none s1
        else setEntry i (some { e with lastUsed := some m.seq, state := .scheduled fireTime }) s
      else s

/-- The matcher takes a mark: it is compared with every WAITING entry, in arm order (R106). -/
def takeMark (m : Mark) (s : State) : State :=
  (inArmOrder Entry.isWaiting s).foldl (fun s i => matchEntry m i s) s

/-! ### Arming (6.2) -/

/-- The refusals of an arm (R97). -/
inductive ArmRefusal where
  | channel
  | permission
  | held
  | duplicate
  | invalid
  | full
  | late
  deriving DecidableEq, Repr

/-- The code of a refusal (R185, R199). -/
def ArmRefusal.code : ArmRefusal → Octet
  | .channel => Code.refusedChannel
  | .permission => Code.refusedPermission
  | .held => Code.refusedHeld
  | .duplicate => Code.refusedDuplicate
  | .invalid => Code.invalid
  | .full => Code.refusedFull
  | .late => Code.refusedLate

/-- The effect that the fields name; none for the code that names no effect. -/
def ArmFields.effectOf (f : ArmFields) : Option Effect :=
  if f.effect = 0 then some (.set f.level)
  else if f.effect = 1 then some .toggle
  else if f.effect = 2 then some (.pulse f.level f.width)
  else none

/-- The effect is one of the three, and a PULSE width lies in its range (R96). -/
def ArmFields.effectValid (f : ArmFields) : Bool :=
  match f.effectOf with
  | none => false
  | some (.set _) => true
  | some .toggle => true
  | some (.pulse _ w) => decide (25 ≤ w.toNat)

/-- For a repeating AT trigger the interval lies in its range and a PULSE is shorter than it (R96, R166). -/
def ArmFields.intervalValid (f : ArmFields) : Bool :=
  match f.trigger with
  | .onMark _ _ _ _ _ => true
  | .atTime _ interval =>
    f.repeats == 0 || (decide (4000 ≤ interval.toNat) && (f.effect != 2 || decide (f.width.toNat < interval.toNat)))

/-- For an AT trigger with an expiry, T is not after the expiry (R96, R166). -/
def ArmFields.expiryCoversTime (f : ArmFields) : Bool :=
  match f.trigger with
  | .onMark _ _ _ _ _ => true
  | .atTime t _ => f.expiry.all fun x => !ntAfter t x

/-- The fields of an arm are valid at NT `now` (R96). -/
def ArmFields.valid (p : Profile) (now : NT) (f : ArmFields) : Bool :=
  f.effectValid && f.intervalValid && f.expiryCoversTime && f.expiry.all (fun x => ntNotBefore x now) &&
    match f.trigger with
    | .atTime _ _ => true
    | .onMark station channel edge _ _ =>
      decide (station.toNat < p.stations) && decide (channel.toNat < 8) && (edgeSelOf edge).isSome

/-- For AT, T is not before now + M (check 7 of R97). -/
def ArmFields.inTime (now : NT) (f : ArmFields) : Bool :=
  match f.trigger with
  | .onMark _ _ _ _ _ => true
  | .atTime t _ => ntNotBefore t (ntAdd now Config.margin)

/-- The trigger of a valid arm; an interval is kept when the repeat count is above 0 (R96). -/
def ArmFields.triggerOf (f : ArmFields) : Trigger :=
  match f.trigger with
  | .atTime t i => .atTime t (if f.repeats = 0 then none else some i)
  | .onMark station channel edge d m =>
    .onMark station.toNat channel.toNat ((edgeSelOf edge).getD .either) d m

/-- A non-FREE entry has this owner and tag (R93). -/
def ownerTagHeld (owner : Nat) (tag : Octet) (s : State) : Bool :=
  !(entriesWhere (fun e => e.owner == owner && e.tag == tag) s).isEmpty

/-- The first check of R97 that an arm fails. `remote` carries the requester and tag of a remote arm. -/
def judgeArm (remote : Option (Nat × Octet)) (channel : Nat) (f : ArmFields) (s : State) : Option ArmRefusal :=
  match driveCfg s channel with
  | none => some .channel
  | some cfg =>
    if remote.any fun r => !cfg.permit.getLsbD r.1 then some .permission
    else if s.action.held then some .held
    else if remote.any fun r => ownerTagHeld r.1 r.2 s then some .duplicate
    else if !f.valid s.profile s.timebase.nt then some .invalid
    else if (freeEntry s).isNone then some .full
    else if !f.inTime s.timebase.nt then some .late
    else none

/-- The entry that an arm creates (R98). -/
def armedEntry (owner : Nat) (tag : Octet) (channel : Nat) (f : ArmFields) (s : State) : Entry where
  owner := owner
  tag := tag
  channel := channel
  trigger := f.triggerOf
  effect := f.effectOf.getD .toggle
  remaining := f.repeats
  fireCount := 0
  lastFire := none
  expiry := f.expiry
  armSeq := s.action.armSeq
  lastUsed := none
  state := match f.trigger with
    | .atTime t _ => .scheduled t
    | .onMark _ _ _ _ _ => .waiting s.timebase.stepNo

/-- An arm that passed every check takes the FREE entry at index i and the next arm sequence (R94, R98). -/
def createEntry (i owner : Nat) (tag : Octet) (channel : Nat) (f : ArmFields) (s : State) : State :=
  let s1 := setEntry i (some (armedEntry owner tag channel f s)) s
  { s1 with action := { s1.action with armSeq := s.action.armSeq + 1 } }

/-- The first tag, counting up from a counter and wrapping, for which `used` does not hold (R94, R165). -/
def firstTag (counter : Octet) (used : Octet → Bool) : Octet :=
  (((List.range 256).map fun k => counter + BitVec.ofNat 8 k).find? fun t => !used t).getD counter

/-- A remote arm: the new state and the refusal, if any (R97, R99). -/
def armRemotely (requester : Nat) (tag : Octet) (channel : Nat) (f : ArmFields) (s : State) :
    State × Option ArmRefusal :=
  match judgeArm (some (requester, tag)) channel f s with
  | some r => (s, some r)
  | none =>
    match freeEntry s with
    | none => (s, some .full)
    | some i => (createEntry i requester tag channel f s, none)

/-- A local arm that passed every check: the new state, the index, the tag and the arm sequence (R94, R98). -/
def armLocally (i channel : Nat) (f : ArmFields) (s : State) : State × Octet :=
  let tag := firstTag s.action.localTag fun t => ownerTagHeld s.profile.station t s
  let s1 := createEntry i s.profile.station tag channel f s
  ({ s1 with action := { s1.action with localTag := tag + 1 } }, tag)

/-- The number of non-FREE entries on a channel (R99, R161). -/
def entriesOnChannel (channel : Nat) (s : State) : Nat := (entriesWhere (fun e => e.channel == channel) s).length

/-! ### Cancelling (6.5) -/

/-- A cancel of the entry at index i: WAITING and SCHEDULED end CANCELLED, ACTIVE is marked (R110, R111). -/
def cancelEntry (i : Nat) (s : State) : State :=
  match entryAt s i with
  | none => s
  | some e =>
    match e.state with
    | .waiting _ => endEntry i Code.cancelled none s
    | .scheduled _ => endEntry i Code.cancelled none s
    | .active ends since _ => setEntry i (some { e with state := .active ends since true }) s

/-- The index of the entry of an owner and tag (R111). -/
def entryOf (owner : Nat) (tag : Octet) (s : State) : Option Nat :=
  (entriesWhere (fun e => e.owner == owner && e.tag == tag) s).head?

/-! ### Hold (6.6) -/

/-- The entry is SCHEDULED or ACTIVE: the entry into HELD ends it (R113). -/
def Entry.endedByHold (e : Entry) : Bool := !e.isWaiting

/-- The action unit takes the entry into HELD: SCHEDULED and ACTIVE entries end BLOCKED, in arm order (R113). -/
def actionEntersHeld (s : State) : State :=
  let s1 := { s with action := { s.action with held := true } }
  (inArmOrder Entry.endedByHold s1).foldl (fun s i => endEntry i Code.blocked none s) s1

/-- The action unit takes the leaving of HELD (R115). -/
def actionLeavesHeld (s : State) : State := { s with action := { s.action with held := false } }

end Sys2Proof.Machine
end

