-- ==== Sys2Proof/Machine/Cycle.lean ====
section
/-! DEFINITION. The cycle unit (07): banks and staging, firing, the swap agreement, the swap. -/

namespace Sys2Proof.Machine

/-- The cycle unit of the state changed by f. -/
def cycleUpdate (f : CycleUnit → CycleUnit) (s : State) : State := { s with cycle := f s.cycle }

/-- The running bank (R120). -/
def CycleUnit.runningBank (c : CycleUnit) : Bank :=
  match c.running with
  | .a => c.bankA
  | .b => c.bankB

/-- The staged bank (R122). -/
def CycleUnit.stagedBank (c : CycleUnit) : Bank :=
  match c.running with
  | .a => c.bankB
  | .b => c.bankA

/-- The cycle unit with the staged bank replaced. -/
def CycleUnit.withStaged (c : CycleUnit) (b : Bank) : CycleUnit :=
  match c.running with
  | .a => { c with bankB := b }
  | .b => { c with bankA := b }

/-- The bank with every place empty. -/
def emptyBank : Bank := Vector.replicate 32 none

/-- The number of filled places of a bank. -/
def filledPlaces (b : Bank) : Nat := (placesWhere b Option.isSome).length

/-- The bank with `count` places from `first` on made empty (R124). -/
def clearPlaces (b : Bank) (first count : Nat) : Bank :=
  (List.range count).foldl (fun b k => tableUpdate b (first + k) fun _ => none) b

/-! ### Judging the staged bank (R125, R126) -/

/-- The entry selects a round (R121). -/
def CyclicEntry.selects (c : CyclicEntry) (round : Word16) : Bool := round.toNat % 2 ^ c.exp == c.phase

/-- Two entries conflict: same channel, same offset, a selected round in common (R126). -/
def CyclicEntry.conflicts (a b : CyclicEntry) : Bool :=
  let k := min a.exp b.exp
  a.channel == b.channel && a.offset == b.offset && a.phase % 2 ^ k == b.phase % 2 ^ k

/-- Why MARK_READY refuses an entry (R125). -/
inductive ReadyFault where
  | notDrive
  | offsetRange
  | pulseCrossesRound
  | conflict
  deriving DecidableEq, Repr

/-- The code of a reason (R185). -/
def ReadyFault.code : ReadyFault → Octet
  | .notDrive => 0x01
  | .offsetRange => 0x02
  | .pulseCrossesRound => 0x03
  | .conflict => 0x04

/-- The width of a PULSE, 0 for the other effects. -/
def Effect.widthOf : Effect → Nat
  | .set _ => 0
  | .toggle => 0
  | .pulse _ w => w.toNat

/-- The first check of R125 that the entry at index i of the staged bank fails. -/
def judgeStaged (s : State) (i : Nat) (c : CyclicEntry) : Option ReadyFault :=
  if (driveCfg s c.channel).isNone then some .notDrive
  else if s.profile.period ≤ c.offset.toNat then some .offsetRange
  else if c.effect.widthOf ≠ 0 ∧ s.profile.period ≤ c.offset.toNat + c.effect.widthOf then some .pulseCrossesRound
  else if (List.range i).any fun j => ((s.cycle.stagedBank[j]?).join).any fun d => c.conflicts d then some .conflict
  else none

/-- The first failure of the staged bank, in ascending index order (R125). -/
def stagedFault (s : State) : Option (Nat × ReadyFault) :=
  (List.range 32).findSome? fun i =>
    ((s.cycle.stagedBank[i]?).join).bind fun c => (judgeStaged s i c).map fun r => (i, r)

/-! ### Firing (R128, R129) -/

/-- The fire of an entry of the fire list: a request and, for a PULSE, a pending pulse end; nothing while held. The entry
leaves the fire list (R128). -/
def fireCyclic (d : CyclicDue) (s : State) : State :=
  let s1 := cycleUpdate (fun c => { c with fireList := c.fireList.filter fun x => x.index != d.index }) s
  if s.cycle.held then s1
  else
    let s2 := requestLevel d.entry.channel
      { kind := .cyclicStart, due := d.instant, key := d.index, index := d.index, level := d.entry.effect.startLevel } s1
    match d.entry.effect with
    | .set _ => s2
    | .toggle => s2
    | .pulse level w =>
      cycleUpdate (fun c =>
        { c with pulseEnds := c.pulseEnds ++
            [{ channel := d.entry.channel, after := oppositeLevel level, index := d.index,
               instant := ntAdd d.instant w.toNat, since := s.timebase.stepNo }] }) s2

/-- The fires of the fire list due in this step, in index order (R128). -/
def dueCyclic (s : State) : List CyclicDue :=
  sortOrdered (fun a b => decide (a.index < b.index))
    (s.cycle.fireList.filter fun d => reached s.timebase.nt d.instant)

/-- CYCLIC_FIRE: the first due fire of the fire list (R128). -/
def takeCyclicFire (s : State) : State :=
  match dueCyclic s with
  | [] => s
  | d :: _ => fireCyclic d s

/-- Every fire of the fire list due in this step, in index order (R127): CYCLIC_FIRE once for each. -/
def takeDueCyclic (s : State) : State := (dueCyclic s).foldl (fun s _ => takeCyclicFire s) s

/-- The first n of the due fires at offset 0, in index order (R130, R157). -/
def takeOffsetZero (n : Nat) (s : State) : State :=
  (((dueCyclic s).filter fun d => d.entry.offset == 0).take n).foldl (fun s d => fireCyclic d s) s

/-- The pulse end is due in this step; it is awaited from the step after its fire (R129). -/
def CyclicEnd.isDue (s : State) (e : CyclicEnd) : Bool :=
  decide (e.since < s.timebase.stepNo) && reached s.timebase.nt e.instant

/-- CYCLIC_PULSE_END: of the pending pulse end at a place of their list (R129). -/
def takeCyclicEnd (place : Nat) (s : State) : State :=
  match s.cycle.pulseEnds[place]? with
  | none => s
  | some e =>
    if e.isDue s then
      requestLevel e.channel
        { kind := .cyclicEnd, due := e.instant, key := e.index, index := e.index, level := some e.after }
        (cycleUpdate (fun c => { c with pulseEnds := c.pulseEnds.eraseIdx place }) s)
    else s

/-! ### The swap agreement and the swap -/

/-- The cycle unit takes a proposal: stale, first, earlier, or ignored (R133). -/
def propose (round : Word16) (s : State) : State :=
  if !numBefore s.timebase.round round then raise .swapStale s
  else
    match s.cycle.pendingSwap with
    | none => cycleUpdate (fun c => { c with pendingSwap := some round }) s
    | some pending =>
      if numBefore round pending then cycleUpdate (fun c => { c with pendingSwap := some round }) s else s

/-- The cycle unit after an executed swap (R136). -/
def CycleUnit.swapped (c : CycleUnit) : CycleUnit :=
  match c.running with
  | .a => { c with running := .b, bankA := emptyBank, staged := .empty, generation := c.generation + 1, skip := false,
                   pendingSwap := none }
  | .b => { c with running := .a, bankB := emptyBank, staged := .empty, generation := c.generation + 1, skip := false,
                   pendingSwap := none }

/-- Step 1 of R127 at the start of the current round: the swap is executed, skipped, or not due (R135, R136, R137). -/
def takeSwap (s : State) : State :=
  if s.cycle.pendingSwap = some s.timebase.round then
    match s.cycle.staged with
    | .ready => raise .swapDone (cycleUpdate CycleUnit.swapped s)
    | .empty => raise .swapSkipped (cycleUpdate (fun c => { c with skip := true, pendingSwap := none }) s)
    | .editing => raise .swapSkipped (cycleUpdate (fun c => { c with skip := true, pendingSwap := none }) s)
  else cycleUpdate (fun c => { c with skip := false }) s

/-- The fire list of the current round (R127). -/
def fireListOf (s : State) : List CyclicDue :=
  (List.range 32).filterMap fun i =>
    ((s.cycle.runningBank[i]?).join).bind fun c =>
      if c.selects s.timebase.round then
        some { index := i, entry := c, instant := ntAdd s.timebase.rs c.offset.toNat }
      else none

/-- The cycle unit takes a round start: due fires of the round just ended, the swap, the new fire list (R127). The timebase
already shows the new round. -/
def cycleRoundStart (s : State) : State :=
  let s1 := takeSwap (takeDueCyclic s)
  if trusted s1.timebase.sync then cycleUpdate (fun c => { c with fireList := fireListOf s1 }) s1
  else cycleUpdate (fun c => { c with fireList := [] }) s1

/-- The cycle unit on the fall to LISTEN (R139). -/
def cycleEntersListen (s : State) : State :=
  cycleUpdate (fun c => { c with pendingSwap := none, skip := false, fireList := [] }) s

/-- The cycle unit takes the entry into HELD (R130). -/
def cycleEntersHeld (s : State) : State := cycleUpdate (fun c => { c with held := true, pulseEnds := [] }) s

/-- The cycle unit takes the leaving of HELD (R130). -/
def cycleLeavesHeld (s : State) : State := cycleUpdate (fun c => { c with held := false }) s

end Sys2Proof.Machine
end

