-- ==== Sys2Proof/Machine/Hold.lean ====
section
/-! DEFINITION. The hold unit (8.2): reasons, the entry into HELD, release pending, the leaving of HELD, the HOLD
line. -/

namespace Sys2Proof.Machine

/-- The reasons that keep the hold unit HELD (R147). -/
inductive Reason where
  | sync
  | line
  | command
  deriving DecidableEq, Repr

/-- The hold unit of the state changed by f. -/
def holdUpdate (f : HoldUnit → HoldUnit) (s : State) : State := { s with hold := f s.hold }

/-- The hold unit with a reason set or cleared. -/
def HoldUnit.setReason (r : Reason) (b : Bool) (h : HoldUnit) : HoldUnit :=
  match r with
  | .sync => { h with reasonSync := b }
  | .line => { h with reasonLine := b }
  | .command => { h with reasonCommand := b }

/-- The hold unit enters HELD (R152). -/
def enterHeld (s : State) : State :=
  let s1 := holdUpdate (fun h =>
    { h with held := true, releasePending := false, reasonCommand := h.reasonCommand || s.profile.manual }) s
  raise .holdChange (cycleEntersHeld (actionEntersHeld (forceAll s1)))

/-- A reason is added: while RELEASED the unit enters HELD, while HELD release pending is cleared (R152, R153). -/
def addReason (r : Reason) (s : State) : State :=
  let s1 := holdUpdate (HoldUnit.setReason r true) s
  if s.hold.held then holdUpdate (fun h => { h with releasePending := false }) s1 else enterHeld s1

/-- A reason is removed: when the set is then empty while HELD, release pending is set (R153). -/
def removeReason (r : Reason) (s : State) : State :=
  holdUpdate (fun h =>
    let h1 := h.setReason r false
    if h1.held && h1.noReason then { h1 with releasePending := true } else h1) s

/-- The hold unit leaves HELD (R154). -/
def leaveHeld (s : State) : State :=
  let s1 := holdUpdate (fun h => { h with held := false, releasePending := false }) s
  raise .holdChange (cycleLeavesHeld (actionLeavesHeld (releaseAll s1)))

/-- The hold unit takes a round start (R154). -/
def holdRoundStart (s : State) : State := if s.hold.releasePending then leaveHeld s else s

/-- The hold unit takes a change of synchronization state (R148). -/
def holdTakesSync (s : State) : State :=
  match s.timebase.sync with
  | .off => s
  | .listen => addReason .sync s
  | .coldstart => s
  | .joining => s
  | .synced => removeReason .sync s
  | .holdover => if s.profile.holdOnHoldover then addReason .sync s else s

/-- A sample of HOLD is ACTIVE under the profile's setting; none when the line is not used (R149). -/
def holdSample (setting : HoldLine) (level : Level) : Option Bool :=
  match setting with
  | .notUsed => none
  | .activeHigh => some (level == .high)
  | .activeLow => some (level == .low)

/-- The hold unit samples HOLD in this step (R149). The fourth differing sample leaves the change to be accepted by
HOLD_LINE_ACCEPTED (assumption 24). -/
def sampleHold (s : State) : State :=
  match holdSample s.profile.holdLine s.pins.hold with
  | none => s
  | some active =>
    holdUpdate (fun h =>
      if active = h.lineActive then { h with lineRun := 0 }
      else if 4 ≤ h.lineRun + 1 then { h with lineDue := true }
      else { h with lineRun := h.lineRun + 1 }) s

/-- HOLD_LINE_ACCEPTED: the sample's state becomes the accepted state, and LINE is added or removed (R149). -/
def takeHoldLine (s : State) : State :=
  if s.hold.lineDue then
    let active := !s.hold.lineActive
    let s1 := holdUpdate (fun h => { h with lineActive := active, lineRun := 0, lineDue := false }) s
    if active then addReason .line s1 else removeReason .line s1
  else s

/-- The hold unit at START: COMMAND is added under MANUAL (R147), and the first sample of HOLD is taken (R149). -/
def startHold (s : State) : State :=
  sampleHold (holdUpdate (fun h => { h with reasonCommand := h.reasonCommand || s.profile.manual }) s)

end Sys2Proof.Machine
end

