-- ==== Sys2Proof/Machine/Requests.lean ====
section
/-! DEFINITION. The request unit (09): the outbound table, answers, deadlines and losses. -/

namespace Sys2Proof.Machine

/-! ### The outbound table (9.3) -/

/-- The record at a place. -/
def recordOf (s : State) (place : Nat) : Option OutRecord := (s.request.table[place]?).join

/-- The state with a place of the outbound table replaced. -/
def setRecord (place : Nat) (r : Option OutRecord) (s : State) : State :=
  { s with request := { s.request with table := tableUpdate s.request.table place fun _ => r } }

/-- The places whose record satisfies p, in ascending order. -/
def recordsWhere (p : OutRecord → Bool) (s : State) : List Nat := placesWhere s.request.table fun r => r.any p

/-- The lowest empty place (R164). -/
def freeRecord (s : State) : Option Nat := (placesWhere s.request.table fun r => r.isNone).head?

/-- What a completing report carries (R169). -/
structure Carried where
  fireCount : Option Nat
  lastFire  : Option NT
  detail    : Option Word16
  deriving DecidableEq, Repr

/-- A completion that no report causes carries nothing (R169). -/
def Carried.nothing : Carried := { fireCount := none, lastFire := none, detail := none }

/-- The record at a place completes with a code: its report is handed to the journal unit and the place becomes empty
(R169). -/
def completeRecord (place : Nat) (code : Octet) (c : Carried) (s : State) : State :=
  match recordOf s place with
  | none => s
  | some r =>
    journalReport
      { origin := .outbound, station := r.target, channel := some r.channel, tag := r.tag, index := none, code := code,
        fireCount := c.fireCount, lastFire := c.lastFire, detail := c.detail } (setRecord place none s)

/-- Every record that satisfies p completes with a code, in ascending order of places. -/
def completeWhere (p : OutRecord → Bool) (code : Octet) (s : State) : State :=
  (recordsWhere p s).foldl (fun s place => completeRecord place code Carried.nothing s) s

/-- The round controller reports that an ARM item has been sent: a QUEUED record becomes AWAITING (R167). -/
def takeArmSent (target : Nat) (tag : Octet) (round : Word16) (s : State) : State :=
  match (recordsWhere (fun r => r.target == target && r.tag == tag) s).head? with
  | none => s
  | some place =>
    match recordOf s place with
    | none => s
    | some r =>
      match r.state with
      | .queued => setRecord place (some { r with state := .awaiting, roundSent := some round }) s
      | .awaiting => s
      | .accepted => s

/-! ### Answers (9.5) -/

/-- The detail that a report carries for its code: a mark sequence for MISSED, the echo for REFUSED_PERMISSION (R169). -/
def ReportItem.carriedDetail (r : ReportItem) : Option Word16 :=
  if r.code = Code.missed ∨ r.code = Code.refusedPermission then r.detail else none

/-- The report's kind is known and its code is one that the kind carries (R168). R168 names no codes of an ACK, and the code
octet of an ACK is not looked at (DESIGN CHOICE, assumption 40). -/
def ReportItem.known (r : ReportItem) : Bool :=
  if r.kind = ReportKind.ack then true
  else if r.kind = ReportKind.refused then Code.ofRefused.contains r.code
  else if r.kind = ReportKind.outcome then Code.ofOutcome.contains r.code
  else false

/-- What a report carries for the record it completes (R169). -/
def ReportItem.carried (r : ReportItem) : Carried :=
  if r.kind = ReportKind.outcome then
    { fireCount := some r.fireCount.toNat, lastFire := r.lastFire, detail := r.carriedDetail }
  else { fireCount := none, lastFire := none, detail := r.carriedDetail }

/-- A report that answers no open record is written UNSOLICITED and counted (R170). -/
def writeUnsolicited (station : Nat) (r : ReportItem) (s : State) : State :=
  let isOutcome := r.kind = ReportKind.outcome
  let isEcho := r.kind = ReportKind.refused ∧ r.code = Code.refusedPermission
  let s1 := { s with request := { s.request with unsolicited := satAdd16 s.request.unsolicited 1 } }
  journalReport
    { origin := .unsolicited, station := station, channel := none, tag := r.tag, index := none
      code := if r.kind = ReportKind.ack then Code.ack else r.code
      fireCount := if isOutcome then some r.fireCount.toNat else none
      lastFire := if isOutcome ∨ isEcho then r.lastFire else none
      detail := if isOutcome ∨ isEcho then r.carriedDetail else none } s1

/-- A known report finds a record (R168). -/
def answerRecord (place : Nat) (rec : OutRecord) (station : Nat) (r : ReportItem) (s : State) : State :=
  match rec.state with
  | .queued => writeUnsolicited station r s
  | .awaiting =>
    if r.kind = ReportKind.ack then setRecord place (some { rec with state := .accepted }) s
    else completeRecord place r.code r.carried s
  | .accepted =>
    if r.kind = ReportKind.ack then writeUnsolicited station r s else completeRecord place r.code r.carried s

/-- A REPORT item of a peer for the own station (R168). -/
def takeReportItem (station : Nat) (r : ReportItem) (s : State) : State :=
  if !r.known then s
  else
    match (recordsWhere (fun rec => rec.target == station && rec.tag == r.tag) s).head? with
    | none => writeUnsolicited station r s
    | some place =>
      match recordOf s place with
      | none => writeUnsolicited station r s
      | some rec => answerRecord place rec station r s

/-! ### Deadlines, losses and the fall (9.6, 9.8) -/

/-- The record is AWAITING and its reply deadline is reached at the start of a round (R171). -/
def OutRecord.pastDeadline (deadline : Nat) (round : Word16) (r : OutRecord) : Bool :=
  match r.state with
  | .queued => false
  | .accepted => false
  | .awaiting =>
    r.roundSent.any fun sent => decide (deadline ≤ (round - sent).toNat ∧ (round - sent).toNat ≤ 32767)

/-- The request unit takes a round start of the timebase in SYNCED or HOLDOVER (R171). -/
def requestRoundStart (s : State) : State :=
  if trusted s.timebase.sync then
    completeWhere (OutRecord.pastDeadline s.profile.replyDeadline s.timebase.round) Code.noReply s
  else s

/-- The record is AWAITING or ACCEPTED and its target is a peer that has become LOST (R172). -/
def OutRecord.orphanedBy (peer : Nat) (r : OutRecord) : Bool :=
  r.target == peer &&
    match r.state with
    | .queued => false
    | .awaiting => true
    | .accepted => true

/-- The request unit is told that a peer has become LOST (R172). -/
def takePeerLost (peer : Nat) (s : State) : State := completeWhere (OutRecord.orphanedBy peer) Code.orphaned s

/-- The request unit ends every record ABANDONED (R176). -/
def abandonRecords (s : State) : State := completeWhere (fun _ => true) Code.abandoned s

end Sys2Proof.Machine
end

