-- ==== Sys2Proof/Machine/Timebase.lean ====
section
/-! DEFINITION. The timebase: slots, the correction and its slew (01), the state machine, the fall to LISTEN and the round
end (02), with what the round controller does at them (03). -/

namespace Sys2Proof.Machine

/-- The timebase of the state changed by f. -/
def timeUpdate (f : Timebase → Timebase) (s : State) : State := { s with timebase := f s.timebase }

/-- The round controller of the state changed by f. -/
def roundCtlUpdate (f : RoundCtl → RoundCtl) (s : State) : State := { s with roundCtl := f s.roundCtl }

/-! ### Slots and instants (R7) -/

/-- The slot length L = P / S. -/
def Profile.slotLen (p : Profile) : Nat := p.period / p.stations

/-- The expected arrival of a frame of sender `sender` in a round that began at rs (R8). -/
def expectedArrival (p : Profile) (rs : NT) (sender : Nat) : NT :=
  ntAdd rs (sender * p.slotLen + p.sendOffset + (p.lineDelays[sender]?).getD 0)

/-- The own send instant of the current round (R7). -/
def ownSendInstant (s : State) : NT :=
  ntAdd s.timebase.rs (s.profile.station * s.profile.slotLen + s.profile.sendOffset)

/-- The listen timer set from now: NT plus 2·P + n·L (R19). -/
def listenInstant (s : State) : NT :=
  ntAdd s.timebase.nt (2 * s.profile.period + s.profile.station * s.profile.slotLen)

/-! ### The correction and its slew (1.4, 1.5) -/

/-- The deviations of the round's list. -/
def Timebase.devList (t : Timebase) : List Deviation := t.deviations.toList.filterMap id

/-- How many lowest, and how many highest, of n values are discarded (R10). -/
def discarded (n : Nat) : Nat := if 7 ≤ n then 2 else if 3 ≤ n then 1 else 0

/-- The correction c of a set of values: half the sum of the least and the greatest that remain, rounded toward zero
(R10). -/
def correctionOf (values : List Int) : Int :=
  let k := discarded values.length
  let kept := ((sortOrdered (fun a b => decide (a < b)) values).drop k).take (values.length - 2 * k)
  (kept.headD 0 + kept.getLastD 0).tdiv 2

/-- The correction of the round that ends; the own station takes part with 0 (R10). -/
def roundCorrection (t : Timebase) : Int := correctionOf (0 :: t.devList.map Deviation.value)

/-- The reference frames of the round that ends (R6). -/
def roundRefs (t : Timebase) : Nat := t.devList.length

/-- Of those, the frames whose heard set named the own station (R10). -/
def roundNaming (t : Timebase) : Nat := (t.devList.filter Deviation.named).length

/-- The correction is within the limit: |c| ≤ C. -/
def withinLimit (p : Profile) (c : Int) : Bool := decide (c.natAbs ≤ p.corrLimit)

/-- The reference frames that R11 asks of a round for its correction to be applied, by the state during the round. -/
def refsToApply (p : Profile) (y : Sync) : Nat :=
  match y with
  | .holdover => p.minRefs
  | .off => 1
  | .listen => 1
  | .coldstart => 1
  | .joining => 1
  | .synced => 1

/-- The correction is applied when the new round starts (R11). -/
def applies (p : Profile) (y : Sync) (c : Int) (refs : Nat) : Bool :=
  withinLimit p c && decide (refsToApply p y ≤ refs)

/-- The spacing k of a slew of c: the larger of ⌊N / |c|⌋ and ⌈N / C⌉, N = P / 25 (R12). -/
def slewSpacing (p : Profile) (c : Int) : Nat :=
  let n := p.period / 25
  max (n / c.natAbs) ((n + p.corrLimit - 1) / p.corrLimit)

/-- The slew set at a round start, with c applied or a zero slew (R12, R13). -/
def Timebase.withSlew (p : Profile) (applied : Bool) (c : Int) (t : Timebase) : Timebase :=
  if applied && c != 0 then { t with slew := c, spacing := slewSpacing p c, slewLeft := slewSpacing p c }
  else { t with slew := 0, spacing := 0, slewLeft := 0 }

/-- The slew cleared (R13). -/
def Timebase.clearSlew (t : Timebase) : Timebase := { t with slew := 0, spacing := 0, slewLeft := 0 }

/-- The deviation list emptied (R9). -/
def Timebase.clearDeviations (t : Timebase) : Timebase := { t with deviations := Vector.replicate 16 none }

/-! ### Changes of state -/

/-- The timebase enters a state: SYNC_CHANGE is raised and the hold unit takes the change (R35, R148). -/
def enterSync (y : Sync) (s : State) : State :=
  holdTakesSync (raise .syncChange (timeUpdate (fun t => { t with sync := y }) s))

/-- The round controller's purge of heard records and peers on entry into LISTEN (R57). -/
def peersAbsent (s : State) : State :=
  roundCtlUpdate (fun r =>
    { r with
      peers := tableMap (fun (p : Peer) => { p with state := .absent, silent := 0 }) r.peers
      heardNow := 0, heardPrev := 0 }) s

/-- The timebase's own part of the fall to LISTEN (R31). -/
def timebaseFalls (s : State) : State :=
  timeUpdate (fun t =>
    (({ t with
        sync := .listen, listenTimer := some (listenInstant s), epoch := t.epoch + 1, coldRounds := 0, joinCount := 0
        thin := 0, unheard := 0, holdRounds := 0 }).clearDeviations).clearSlew) s

/-- The request unit's part of the fall: records stand only in SYNCED and HOLDOVER (R176). -/
def requestFalls (from' : Sync) (s : State) : State := if trusted from' then abandonRecords s else s

/-- The fall to LISTEN, raising SYNC_CHANGE and the notice of the cause (R31). The order among the send-queue purge, the
action unit's reports and the request unit's records is the caller's (assumption 7). Each of the three is taken whole: that
the purge does not fall between two BLOCKED offers, and that the BLOCKED and the ABANDONED records do not interleave in the
REPORTS ring, which R31 and R86 leave open, is the model's choice (DESIGN CHOICE, assumption 7). -/
def fallToListen (order : RoundOrder) (cause : Option Cause) (s : State) : State :=
  let from' := s.timebase.sync
  let s1 := raise .syncChange (timebaseFalls s)
  let s2 := match cause with
    | none => s1
    | some c => raise c s1
  let s3 := cycleEntersListen (peersAbsent s2)
  let s4 := if order.purgeFirst then purgeQueue s3 else s3
  let s5 := if order.recordsFirst then requestFalls from' s4 else s4
  let s6 := holdTakesSync s5
  let s7 := if order.recordsFirst then s6 else requestFalls from' s6
  if order.purgeFirst then s7 else purgeQueue s7

/-- The order taken where the caller leaves it to the station (assumption 3). -/
def defaultOrder : RoundOrder :=
  { release := .releaseFirst, purgeFirst := true, recordsFirst := false, lossFirst := true }

/-- A COLDSTART span ends in failure (R23, R24). -/
def coldstartFails (order : RoundOrder) (s : State) : State :=
  fallToListen order (some .coldstartFail)
    (timeUpdate (fun t => { t with coldAttempts := satAdd16 t.coldAttempts 1 }) s)

/-- A garbled frame or the own collision is reported to the timebase (R23). -/
def coldstartDisturbed (s : State) : State :=
  match s.timebase.sync with
  | .coldstart => coldstartFails defaultOrder s
  | .off => s
  | .listen => s
  | .joining => s
  | .synced => s
  | .holdover => s

/-- LISTEN_TIMER_EXPIRY: the timebase enters COLDSTART with round 0 (R19, R16, R57). -/
def takeListenExpiry (s : State) : State :=
  match s.timebase.sync, s.timebase.listenTimer with
  | .listen, some t =>
    if reached s.timebase.nt t then
      let s1 := timeUpdate (fun t =>
        (({ t with
            listenTimer := none, coldRounds := 0, round := 0, rs := t.nt
            epoch := t.epoch + 1 }).clearDeviations).clearSlew) s
      enterSync .coldstart
        (roundCtlUpdate (fun r => { r with heardNow := 0, heardPrev := 0, sendTaken := false }) s1)
    else s
  | .listen, none => s
  | .off, _ => s
  | .coldstart, _ => s
  | .joining, _ => s
  | .synced, _ => s
  | .holdover, _ => s

/-! ### Round-end transitions (2.4 to 2.7) -/

/-- The timebase enters SYNCED; the thin-round and unheard counts are 0 (R24, R26, R29). -/
def enterSynced (s : State) : State :=
  enterSync .synced (timeUpdate (fun t => { t with thin := 0, unheard := 0 }) s)

/-- The round end in COLDSTART (R24). -/
def coldstartRoundEnd (order : RoundOrder) (c : Int) (refs : Nat) (s : State) : State :=
  if s.profile.minRefs ≤ refs && withinLimit s.profile c then enterSynced s
  else if 8 ≤ s.timebase.coldRounds + 1 then coldstartFails order s
  else timeUpdate (fun t => { t with coldRounds := t.coldRounds + 1 }) s

/-- The round end in JOINING (R25, R26). -/
def joiningRoundEnd (order : RoundOrder) (c : Int) (refs : Nat) (s : State) : State :=
  if s.timebase.joinCount = 0 then
    if withinLimit s.profile c then timeUpdate (fun t => { t with joinCount := 1 }) s
    else fallToListen order (some .correctionLimit) s
  else if refs = 0 then fallToListen order none s
  else if !withinLimit s.profile c then fallToListen order (some .correctionLimit) s
  else if s.timebase.joinCount = 1 then timeUpdate (fun t => { t with joinCount := 2 }) s
  else enterSynced (timeUpdate (fun t => { t with joinCount := 0 }) s)

/-- The counts of R27 after a round with `refs` reference frames, `naming` of them naming the own station. -/
def countRound (p : Profile) (refs naming : Nat) (t : Timebase) : Timebase :=
  { t with
    thin := if refs < p.minRefs then t.thin + 1 else 0
    unheard := if p.minRefs ≤ refs ∧ naming = 0 then t.unheard + 1 else 0 }

/-- The round end in SYNCED (R27, R28). -/
def syncedRoundEnd (order : RoundOrder) (c : Int) (refs naming : Nat) (s : State) : State :=
  let s1 := timeUpdate (countRound s.profile refs naming) s
  if !withinLimit s.profile c then fallToListen order (some .correctionLimit) s1
  else if 4 ≤ s1.timebase.unheard then fallToListen order (some .unheard) s1
  else if 2 ≤ s1.timebase.thin then
    if s.profile.holdover = 0 then fallToListen order none s1
    else enterSync .holdover (timeUpdate (fun t => { t with holdRounds := 0, thin := 0, unheard := 0 }) s1)
  else s1

/-- The round end in HOLDOVER (R29). -/
def holdoverRoundEnd (order : RoundOrder) (c : Int) (refs : Nat) (s : State) : State :=
  if !withinLimit s.profile c then fallToListen order (some .correctionLimit) s
  else if s.profile.minRefs ≤ refs then enterSynced (timeUpdate (fun t => { t with holdRounds := 0 }) s)
  else if s.profile.holdover ≤ s.timebase.holdRounds + 1 then fallToListen order none s
  else timeUpdate (fun t => { t with holdRounds := t.holdRounds + 1 }) s

/-- The state machine's round-end transition (step 2 of R6). -/
def roundTransition (order : RoundOrder) (c : Int) (refs naming : Nat) (s : State) : State :=
  match s.timebase.sync with
  | .coldstart => coldstartRoundEnd order c refs s
  | .joining => joiningRoundEnd order c refs s
  | .synced => syncedRoundEnd order c refs naming s
  | .holdover => holdoverRoundEnd order c refs s
  | .off => s
  | .listen => s

/-! ### The round start -/

/-- A peer that was silent in the round that ends (R56). -/
def Peer.silentRound (p : Peer) : Peer :=
  let silent := min (p.silent + 1) 255
  { p with silent := silent, state := if p.state = .heard ∧ silent = 3 then .lost else p.state }

/-- The peers of the table: station numbers below S, other than the own. -/
def peerNumbers (p : Profile) : List Nat := (List.range (min p.stations 16)).filter fun k => k != p.station

/-- Peer k was silent in the round that ends: its count rises, and it may become LOST, with PEER_CHANGE (R56). -/
def countSilence (s : State) (k : Nat) : State :=
  if s.roundCtl.heardNow.getLsbD k then s
  else
    let lost := (s.roundCtl.peers[k]?).any fun p => p.state != p.silentRound.state
    let s1 := roundCtlUpdate (fun r => { r with peers := tableUpdate r.peers k Peer.silentRound }) s
    if lost then raise .peerChange s1 else s1

/-- The peers that become LOST at this round end (R56), in ascending order of station numbers (DESIGN CHOICE, assumption
38). -/
def peersLost (s : State) : List Nat :=
  (peerNumbers s.profile).filter fun k =>
    !s.roundCtl.heardNow.getLsbD k && (s.roundCtl.peers[k]?).any fun p => p.state != p.silentRound.state

/-- The round controller takes a round start: silence is counted, and the current heard record becomes the previous one
(R54, R56). -/
def peersRoundStart (s : State) : State :=
  roundCtlUpdate (fun r => { r with heardPrev := r.heardNow, heardNow := 0, sendTaken := false })
    ((peerNumbers s.profile).foldl countSilence s)

/-- The request unit is told of the peers that became LOST, and takes the round start (R171, R172); either may come first
(assumption 7). The losses are taken together, in the order of the list (assumption 38). -/
def requestsRoundStart (order : RoundOrder) (lost : List Nat) (s : State) : State :=
  if order.lossFirst then requestRoundStart (lost.foldl (fun s k => takePeerLost k s) s)
  else lost.foldl (fun s k => takePeerLost k s) (requestRoundStart s)

/-- The hold unit and the cycle unit take the round start (R127, R154), in the order chosen (R130, R157). -/
def outputsRoundStart (order : ReleaseOrder) (s : State) : State :=
  match order with
  | .releaseFirst => cycleRoundStart (holdRoundStart s)
  | .roundStartFirst fires => holdRoundStart (takeOffsetZero fires (cycleRoundStart s))

/-- Round r + 1 starts (step 3 of R6), `y` being the state during round r. -/
def startRound (order : RoundOrder) (y : Sync) (c : Int) (refs : Nat) (s : State) : State :=
  let applied := applies s.profile y c refs
  let lost := peersLost s
  let s1 := timeUpdate (fun t =>
    (({ t with
        round := t.round + 1, rs := roundEndInstant s, epoch := t.epoch + 1
        corrApplied := applied }).clearDeviations).withSlew s.profile applied c) s
  outputsRoundStart order.release (requestsRoundStart order lost (peersRoundStart s1))

/-- The correction and the counts of the round that ends are recorded; whether c is applied is known when the new round
starts (R10, R11). -/
def recordRound (t : Timebase) : Timebase :=
  { t with
    corr := roundCorrection t, corrCount := 1 + roundRefs t, corrApplied := false, refs := roundRefs t
    refsNaming := roundNaming t }

/-- ROUND_END, in the step that reaches RS(r) + P (R6). -/
def takeRoundEnd (order : RoundOrder) (s : State) : State :=
  let y := s.timebase.sync
  if roundEndDue s then
    let c := roundCorrection s.timebase
    let refs := roundRefs s.timebase
    let s1 := roundTransition order c refs (roundNaming s.timebase) (timeUpdate recordRound s)
    if roundsRun s1.timebase.sync then startRound order y c refs s1 else s1
  else s

/-- The rounds whose end is due are ended, at most as many as are given. -/
def endRounds : Nat → State → State
  | 0, s => s
  | n + 1, s => endRounds n (takeRoundEnd defaultOrder s)

/-- How many round ends the step can have reached (R4, R6). -/
def roundsDue (s : State) : Nat :=
  if roundEndDue s then (s.timebase.nt - s.timebase.rs).toNat / s.profile.period else 0

/-- Every round end that this step has reached is taken (R4, R6). -/
def takeRoundEnds (s : State) : State := endRounds (roundsDue s) s

/-! ### Adoption (1.6) -/

/-- The timebase adopts the time of a frame observed at `observed` (R14), and the round controller empties its heard
records (R57). An event of the step that was taken before saw the NT before the jump (R3; DESIGN CHOICE, assumption 42). -/
def adopt (round : Word16) (rs : NT) (sender : Nat) (observed : NT) (s : State) : State :=
  let jump := expectedArrival s.profile rs sender - observed
  let s1 := timeUpdate (fun t =>
    (({ t with round := round, rs := rs, nt := t.nt + jump, epoch := t.epoch + 1 }).clearDeviations).clearSlew) s
  raise .timeJump (roundCtlUpdate (fun r => { r with heardNow := 0, heardPrev := 0, sendTaken := false }) s1)

/-- The timebase enters JOINING by adoption (R20, R22); the channels of the set `after` take their samples of this step
after it (R65). -/
def joinFrame (after : Octet) (round : Word16) (rs : NT) (sender : Nat) (observed : NT) (s : State) : State :=
  enterSync .joining
    (timeUpdate (fun t => { t with joinCount := 0, coldRounds := 0, listenTimer := none })
      (sampledAfterAdoption after (adopt round rs sender observed s)))

end Sys2Proof.Machine
end

