-- ==== Sys2Proof/Machine/Due.lean ====
section
/-! DEFINITION. The events due in a step that bring the drive lines requests, force or release (R4), and what a reading of a
drive line shows before they have been taken (R145). -/

namespace Sys2Proof.Machine

/-- Due fires are taken until none is due, at most as many as are given. -/
def drainFires : Nat → State → State
  | 0, s => s
  | n + 1, s => if (dueFires s).isEmpty then s else drainFires n (takeFire s)

/-- How many fires the SCHEDULED entries can still make in one step: each its own and, where an AT entry is SCHEDULED again
already due, one for every repeat left (R101, R104). -/
def firesLeft (s : State) : Nat :=
  ((List.range 48).map fun i =>
    match entryAt s i with
    | none => 0
    | some e =>
      match e.state with
      | .scheduled _ => e.remaining + 1
      | .waiting _ => 0
      | .active _ _ _ => 0).sum

/-- The pending cyclic pulse ends that are due, as many as are given, oldest first. -/
def drainCyclicEnds : Nat → State → State
  | 0, s => s
  | n + 1, s =>
    match s.cycle.pulseEnds.findIdx? (fun e => e.isDue s) with
    | none => s
    | some place => drainCyclicEnds n (takeCyclicEnd place s)

/-- The pulse ends that are due. -/
def drainPulseEnds (s : State) : State :=
  let s1 := (List.range 48).foldl (fun s i => takePulseEnd i s) s
  drainCyclicEnds s1.cycle.pulseEnds.length s1

/-- The armed fires and then the cyclic fires that are due. -/
def drainStarts (s : State) : State := takeDueCyclic (drainFires (firesLeft s) s)

/-- Every event due in this step that can bring a drive line a request, the force or the release, in the order of
assumption 3. -/
def drainDrives (s : State) : State := drainStarts (takeRoundEnds (drainPulseEnds (takeHoldLine s)))

/-! ### What a reading of a drive line shows (R145) -/

/-- The drive side as it stood at the end of the step before. -/
def Drive.before (d : Drive) : Drive :=
  { d with level := d.baseLevel, lastChange := d.baseLast, changes := d.baseChanges }

/-- Two drive sides give the same reading: level, last change time and change count (R74, R145). -/
def Drive.readsAs (d e : Drive) : Bool := d.level == e.level && d.lastChange == e.lastChange && d.changes == e.changes

/-- What is due in this step and has not been taken can still change what channel c settles to: taken together it leaves
another level, change time or change count, or it releases a line that is forced now. -/
def changeDue (c : Nat) (s : State) : Bool :=
  let t := drainDrives s
  (s.hold.held && !t.hold.held) ||
    match s.channels[c]?, t.channels[c]? with
    | some before, some after => !before.drive.readsAs after.drive
    | some _, none => false
    | none, _ => false

/-- What a reading of channel c shows of its drive side: the step's level, change time and change count when nothing that is
still due changes them, and those of the step before otherwise (R145; assumption 36). -/
def shownDrive (c : Nat) (d : Drive) (s : State) : Drive := if changeDue c s then d.before else d

end Sys2Proof.Machine
end

