-- ==== Sys2Proof/Machine/Targets.lean ====
section
/-! DEFINITION. The target side of the request unit (9.2): a peer's ARM and CANCEL items. -/

namespace Sys2Proof.Machine

/-- The echo of a REFUSED_PERMISSION: bit 0 channel level as R145 gives it, bits 1 to 3 hold reasons, bits 4 to 6
synchronization state, bits 7 to 12 entries on the channel (R161, 10.7.3). Bits 13 to 15, which no rule names, are 0
(DESIGN CHOICE, assumption 18). -/
def echoOf (channel : Nat) (s : State) : Word16 :=
  let level := ((s.channels[channel]?).bind fun c => (shownDrive channel c.drive s).level).getD .low
  BitVec.ofNat 16
    (levelCode level + 2 * s.hold.reasons + 16 * syncCode s.timebase.sync + 128 * entriesOnChannel channel s)

/-- The REPORT item that answers an ARM item (R160). The code of an ACK, and the fire count of an ACK or a REFUSED, for which
the rules give nothing, are 0 (DESIGN CHOICE, assumption 40). -/
def armAnswer (requester : Nat) (tag : Octet) (channel : Nat) (refusal : Option ArmRefusal) (s : State) : ReportItem :=
  match refusal with
  | none =>
    { requester := requester, tag := tag, kind := ReportKind.ack, code := 0, lastFire := none, fireCount := 0,
      detail := none }
  | some r =>
    { requester := requester, tag := tag, kind := ReportKind.refused, code := r.code, lastFire := none, fireCount := 0,
      detail := if r = .permission then some (echoOf channel s) else none }

/-- An ARM item of a peer for the own station (R160). -/
def takeArmItem (requester : Nat) (tag : Octet) (channel : Nat) (f : ArmFields) (s : State) : State :=
  let (s1, refusal) := armRemotely requester tag channel f s
  offerReport (armAnswer requester tag channel refusal s) s1

/-- A CANCEL item of a peer for the own station (R162). -/
def takeCancelItem (requester : Nat) (tag : Octet) (s : State) : State :=
  match entryOf requester tag s with
  | some i => cancelEntry i s
  | none =>
    offerReport
      { requester := requester, tag := tag, kind := ReportKind.outcome, code := Code.notFound, lastFire := none,
        fireCount := 0, detail := none } s

end Sys2Proof.Machine
end

