-- ==== Sys2Proof/Machine/Bus.lean ====
section
/-! DEFINITION. The timing bus (03): the own frame, reception, the checks, the peer table, and what a frame hands on. -/

namespace Sys2Proof.Machine

/-! ### The own frame (3.1, 3.4) -/

/-- Whether the state sends at the own send instant (R32). -/
def sends (y : Sync) : Bool :=
  match y with
  | .off => false
  | .listen => false
  | .joining => false
  | .coldstart => true
  | .synced => true
  | .holdover => true

/-- The frame of the own send instant: header from the owners' values in this step, body packed from the head of the send
queue; a STARTUP frame takes no items (R32, R40, R44, R134). -/
def ownFrame (s : State) : Frame where
  clusterTag := s.profile.clusterTag
  sender := s.profile.station
  startup := s.timebase.sync == .coldstart
  synced := s.timebase.sync == .synced
  holdover := s.timebase.sync == .holdover
  held := s.hold.held
  swapSkipped := s.cycle.skip
  pendingSwap := s.cycle.pendingSwap
  generation := s.cycle.generation
  round := s.timebase.round
  roundStart := s.timebase.rs
  heard := s.roundCtl.heardPrev
  items :=
    if s.timebase.sync == .coldstart then []
    else s.roundCtl.queue.take (packCount s.profile.bodyBudget 0 s.roundCtl.queue)

/-- A reception under way is cut short by the own send instant (R47). -/
def Receiver.cut : Receiver → Receiver
  | .receiving r => .cutShort r
  | .notReceiving => .notReceiving
  | .waitIdle => .waitIdle
  | .ready => .ready
  | .cutShort r => .cutShort r

/-- The own frame is begun (R38). -/
def beginFrame (s : State) : State :=
  let f := ownFrame s
  roundCtlUpdate (fun r =>
    { r with
      inFlight := some
        { octets := frameOctets f, round := s.timebase.round, begun := s.timebase.stepNo, packed := f.items.length }
      receiver := r.receiver.cut }) s

/-- OWN_SEND_INSTANT, in the step that reaches it, once in a round (R7, R32, R38). -/
def takeSendInstant (s : State) : State :=
  if roundsRun s.timebase.sync && !s.roundCtl.sendTaken && reached s.timebase.nt (ownSendInstant s) then
    let s1 := roundCtlUpdate (fun r => { r with sendTaken := true }) s
    if sends s.timebase.sync && s.roundCtl.inFlight.isNone then beginFrame s1 else s1
  else s

/-- The receiver after the own frame ends: it waits for an idle line (R46). A reception cut short and not yet taken as
failed is still to be taken (R47). -/
def Receiver.afterOwnFrame : Receiver → Receiver
  | .cutShort r => .cutShort r
  | .receiving _ => .waitIdle
  | .notReceiving => .waitIdle
  | .waitIdle => .waitIdle
  | .ready => .waitIdle

/-- The own frame ends: BTXEN is disabled (R39, R45). -/
def endOwnFrame (s : State) : State :=
  roundCtlUpdate (fun r => { r with inFlight := none, receiver := r.receiver.afterOwnFrame }) s

/-- A bit of the own frame ends in this step, and the station drove it recessive: only on such a bit can the line differ
from what the station drives (R37, R39). -/
def collisionSeen (s : State) (f : OwnFrame) : Bool :=
  let elapsed := s.timebase.stepNo - f.begun
  let bits := elapsed / s.profile.bitPeriods
  decide (0 < elapsed ∧ elapsed % s.profile.bitPeriods = 0 ∧ bits ≤ 10 * f.octets.length) && f.bitAt (bits - 1)

/-- COLLISION, at the end of the bit that differs: the frame in flight is abandoned and counted; its items stay in the
queue (R39). -/
def takeCollision (s : State) : State :=
  match s.roundCtl.inFlight with
  | none => s
  | some f =>
    if collisionSeen s f then
      coldstartDisturbed
        (endOwnFrame (roundCtlUpdate (fun r => { r with collisions := satAdd16 r.collisions 1 }) s))
    else s

/-- The request unit is told of an ARM item that has been sent (R45). -/
def reportSent (round : Word16) (s : State) (i : Item) : State :=
  match i with
  | .arm target _ tag _ => takeArmSent target tag round s
  | .mark _ => s
  | .cancel _ _ => s
  | .report _ => s

/-- The frame in flight has had its time on the line (R37). -/
def frameDone (s : State) (f : OwnFrame) : Bool :=
  decide (f.begun + framePeriods s.profile f.octets.length ≤ s.timebase.stepNo)

/-- FRAME_SENT_WHOLE: packed items leave the queue, and ARM sendings are reported (R38, R45). -/
def takeFrameSent (s : State) : State :=
  match s.roundCtl.inFlight with
  | none => s
  | some f =>
    if frameDone s f then
      (s.roundCtl.queue.take f.packed).foldl (reportSent f.round)
        (setQueue (s.roundCtl.queue.drop f.packed) (endOwnFrame s))
    else s

/-! ### Reception (3.5) -/

/-- A frame whose start bit is seen in this step (R8, R46). -/
def observedNow (s : State) : Reception where
  observed := s.timebase.nt
  epoch := s.timebase.epoch
  inRound := roundsRun s.timebase.sync
  round := s.timebase.round
  rs := s.timebase.rs

/-- RECEPTION_START: the leading edge of a start bit after an idle line fixes the observed instant (R46). -/
def takeReceptionStart (s : State) : State :=
  match s.roundCtl.receiver with
  | .ready =>
    if s.roundCtl.inFlight.isSome then s
    else roundCtlUpdate (fun r => { r with receiver := .receiving (observedNow s) }) s
  | .notReceiving => s
  | .waitIdle => s
  | .receiving _ => s
  | .cutShort _ => s

/-! ### Counting of discarded frames (R52) -/

/-- A peer entry changed by f, for a peer of the table (R53). -/
def peerUpdate (k : Nat) (f : Peer → Peer) (s : State) : State :=
  if (peerNumbers s.profile).contains k then
    roundCtlUpdate (fun r => { r with peers := tableUpdate r.peers k f }) s
  else s

/-- How far the observed instant lies from the expected arrival from a peer. -/
def arrivalDistance (p : Profile) (rs observed : NT) (k : Nat) : Nat :=
  (ntDiff observed (expectedArrival p rs k)).natAbs

/-- The peer slot whose expected arrival is nearest to the observed instant, ties to the lower number. A slot whose window
holds the instant is nearer than one whose window does not, so this is the attribution of R52 in each of its cases. -/
def nearestPeer (p : Profile) (rs observed : NT) : Option Nat :=
  (peerNumbers p).foldl (fun best k =>
    match best with
    | none => some k
    | some b => if arrivalDistance p rs observed k < arrivalDistance p rs observed b then some k else some b) none

/-- The slot to which a garbled or foreign frame is attributed. For an observed instant that lay in no round it is a free
value among the peers (assumption 13). -/
def attributedSlot (r : Reception) (s : State) : Option Nat :=
  if r.inRound then nearestPeer s.profile r.rs r.observed
  else
    let peers := peerNumbers s.profile
    peers[Config.freeSlot s.freeCount % peers.length]?

/-- A discarded frame is counted against the slot it is attributed to; only where the peer table is kept (R52, R53). -/
def countAttributed (r : Reception) (f : Peer → Peer) (s : State) : State :=
  if roundsRun s.timebase.sync then
    let s1 := if r.inRound then s else { s with freeCount := s.freeCount + 1 }
    match attributedSlot r s with
    | none => s1
    | some k => peerUpdate k f s1
  else s

/-- A garbled frame: counted, and reported to the timebase in COLDSTART (R47, R48, R52). -/
def takeGarbled (r : Reception) (s : State) : State :=
  coldstartDisturbed (countAttributed r (fun p => { p with checkFails := satAdd16 p.checkFails 1 }) s)

/-! ### A valid frame (3.6 to 3.8) -/

/-- The deviation of a frame observed in a round (R8). -/
def frameDeviation (p : Profile) (r : Reception) (sender : Nat) : Int :=
  ntDiff r.observed (expectedArrival p r.rs sender)

/-- A deviation at the nearer end of −32,767..32,767 (R55). -/
def clampDeviation (d : Int) : Int := max (-32767) (min d 32767)

/-- The frame passes the round check: a round was current at its observed instant, and it bears its number (R51;
assumption 12). -/
def passesRound (r : Reception) (f : Frame) : Bool := r.inRound && f.round == r.round

/-- The frame passes the acceptance window (R51). -/
def passesWindow (p : Profile) (r : Reception) (f : Frame) : Bool :=
  decide ((frameDeviation p r f.sender).natAbs ≤ p.window)

/-- The sender's entry after a valid frame (R55). -/
def Peer.heardFrom (f : Frame) (deviation : Int) (p : Peer) : Peer :=
  { p with
    state := .heard, lastRound := some f.round, silent := 0, lastDev := some (clampDeviation deviation)
    lastHeard := f.heard
    flags := { synced := f.synced, holdover := f.holdover, held := f.held, swapSkipped := f.swapSkipped }
    lastGen := some f.generation }

/-- The sender's peer entry and the heard record take a valid frame; an entry that was not HEARD raises PEER_CHANGE (R54,
R55). -/
def peerHeard (f : Frame) (deviation : Int) (s : State) : State :=
  let changed := (s.roundCtl.peers[f.sender]?).any fun p => p.state != .heard
  let s1 := peerUpdate f.sender (Peer.heardFrom f deviation)
    (roundCtlUpdate (fun r => { r with heardNow := setAdd r.heardNow f.sender }) s)
  if changed then raise .peerChange s1 else s1

/-- The deviation of a reference frame is handed to the timebase, which keeps it while the round of the observed instant
is current (R9, R34). -/
def handDeviation (r : Reception) (f : Frame) (s : State) : State :=
  if f.isReference && r.inRound && r.epoch == s.timebase.epoch then
    let d : Deviation :=
      { value := frameDeviation s.profile r f.sender, named := f.heard.getLsbD s.profile.station }
    timeUpdate (fun t => { t with deviations := tableUpdate t.deviations f.sender fun _ => some d }) s
  else s

/-- The states in which the cycle unit takes the swap field (R33, R132). -/
def takesSwapField (y : Sync) : Bool :=
  match y with
  | .off => false
  | .listen => false
  | .coldstart => false
  | .joining => true
  | .synced => true
  | .holdover => true

/-- The swap field of a valid frame (R132). -/
def handSwapField (f : Frame) (s : State) : State :=
  if takesSwapField s.timebase.sync then
    match f.pendingSwap with
    | none => s
    | some round => propose round s
  else s

/-- An item of a valid frame of `sender` is handed to its owner when it meets its condition (R59). -/
def handItem (sender : Nat) (s : State) (i : Item) : State :=
  match i with
  | .mark m =>
    if m.station == sender && !m.unsynced then journalPeerMark m (takeMark m s) else s
  | .arm target channel tag fields =>
    if target == s.profile.station then takeArmItem sender tag channel fields s else s
  | .cancel target tag => if target == s.profile.station then takeCancelItem sender tag s else s
  | .report r => if r.requester == s.profile.station then takeReportItem sender r s else s

/-- The items of a valid frame, in their order in the body, in SYNCED and HOLDOVER (R33, R59). -/
def handItems (f : Frame) (s : State) : State :=
  if trusted s.timebase.sync then f.items.foldl (handItem f.sender) s else s

/-- A frame that passed every check where rounds run (R55, R59). -/
def takeValid (r : Reception) (f : Frame) (s : State) : State :=
  handItems f (handSwapField f (handDeviation r f (peerHeard f (frameDeviation s.profile r f.sender) s)))

/-- Checks 4 and 5 where rounds run (R48, R51, R52). A STARTUP frame that completes in COLDSTART and was observed before
any round is without effect (R34). -/
def takeInRound (r : Reception) (f : Frame) (s : State) : State :=
  if !passesRound r f then
    if !r.inRound && f.startup then s
    else peerUpdate f.sender (fun p => { p with mismatches := satAdd16 p.mismatches 1 }) s
  else if !passesWindow s.profile r f then
    peerUpdate f.sender (fun p => { p with misplaced := satAdd16 p.misplaced 1 }) s
  else takeValid r f s

/-- A frame that R22 takes for joining in COLDSTART. -/
def joinsFromColdstart (p : Profile) (r : Reception) (f : Frame) : Bool :=
  if f.startup then decide (f.sender < p.station) else f.synced && !(passesRound r f && passesWindow p r f)

/-- The deviation recorded for a frame taken for joining; a free value when its observed instant lay in no round
(assumption 14). -/
def joinDeviation (r : Reception) (f : Frame) (s : State) : Int :=
  if r.inRound then frameDeviation s.profile r f.sender else Config.freeDeviation s.freeCount

/-- A frame is taken for joining in COLDSTART: the sender's entry is updated with the deviation measured before adoption,
and the timebase adopts (R22, R55). -/
def takeForJoining (after : Octet) (r : Reception) (f : Frame) (s : State) : State :=
  let s1 := if r.inRound then s else { s with freeCount := s.freeCount + 1 }
  joinFrame after f.round f.roundStart f.sender r.observed (peerHeard f (joinDeviation r f s) s1)

/-- A valid frame in LISTEN: adoption, or a restart of the listen timer (R20). -/
def takeInListen (after : Octet) (r : Reception) (f : Frame) (s : State) : State :=
  if f.isReference then joinFrame after f.round f.roundStart f.sender r.observed s
  else timeUpdate (fun t => { t with listenTimer := some (listenInstant s) }) s

/-- A frame that passed the check sequence, the cluster tag and the duplicate-station check, by the state (R20, R22,
R34, R48). -/
def takeChecked (after : Octet) (r : Reception) (f : Frame) (s : State) : State :=
  match s.timebase.sync with
  | .off => s
  | .listen => takeInListen after r f s
  | .coldstart => if joinsFromColdstart s.profile r f then takeForJoining after r f s else takeInRound r f s
  | .joining => takeInRound r f s
  | .synced => takeInRound r f s
  | .holdover => takeInRound r f s

/-- The checks on a frame whose check sequence matched, in their order (R48, R49, R50). -/
def takeFrame (after : Octet) (r : Reception) (f : Frame) (s : State) : State :=
  if f.clusterTag ≠ s.profile.clusterTag ∨ s.profile.stations ≤ f.sender then
    countAttributed r (fun p => { p with foreign := satAdd16 p.foreign 1 }) s
  else if f.sender = s.profile.station then
    raise .duplicateStation
      (roundCtlUpdate (fun c => { c with duplicates := satAdd16 c.duplicates 1 }) s)
  else takeChecked after r f s

/-- The receiver waits again for an idle line after a reception ends (R47). -/
def endReception (s : State) : State := roundCtlUpdate (fun r => { r with receiver := .waitIdle }) s

/-- A complete reception: one whose octets break the form of R47, or whose check sequence does not match, is a garbled
frame (R47, R48). -/
def takeComplete (octets : List Octet) (after : Octet) (r : Reception) (s : State) : State :=
  match frameOf s.profile.bodyBudget octets with
  | none => takeGarbled r (endReception s)
  | some f => takeFrame after r f (endReception s)

/-- FRAME_COMPLETE. A reception whose last octet ends in the very step of the own send instant is complete, also where the
send decision is taken first: the instant was not reached before that octet (R32, R47; DESIGN CHOICE, assumption 35). -/
def takeFrameComplete (octets : List Octet) (after : Octet) (s : State) : State :=
  match s.roundCtl.receiver with
  | .receiving r => takeComplete octets after r s
  | .cutShort r => takeComplete octets after r s
  | .notReceiving => s
  | .waitIdle => s
  | .ready => s

/-- FRAME_FAILED: the reception under way, or the one that the own send instant cut short, is garbled (R47). After a cut
the own frame is in flight, and the receiver waits for an idle line once it has ended (R46). -/
def takeFrameFailed (s : State) : State :=
  match s.roundCtl.receiver with
  | .receiving r => takeGarbled r (endReception s)
  | .cutShort r => takeGarbled r (endReception s)
  | .notReceiving => s
  | .waitIdle => s
  | .ready => s

/-- LINE_IDLE: 20 idle bit periods let the receiver begin a reception; within a reception they cut the frame short (R46,
R47). While the own frame is in flight BRX shows the own bits. -/
def takeLineIdle (s : State) : State :=
  if s.roundCtl.inFlight.isSome then s
  else
    match s.roundCtl.receiver with
    | .waitIdle => roundCtlUpdate (fun r => { r with receiver := .ready }) s
    | .receiving r => takeGarbled r (endReception s)
    | .notReceiving => s
    | .ready => s
    | .cutShort _ => s

end Sys2Proof.Machine
end

