-- ==== Sys2Proof/Machine/ProfileLayout.lean ====
section
/-! DEFINITION. The profile: its layout (10.7.6) and the checks of LOAD_PROFILE (R188). -/

namespace Sys2Proof.Machine

/-- The offset of channel c in the profile. -/
def channelOffset (c : Nat) : Nat := 56 + 8 * c

/-- The offset of ring k in the profile. -/
def ringOffset (k : Nat) : Nat := 120 + 12 * k

/-- A one-octet field of the profile. -/
def byteAt (os : List Octet) (i : Nat) : Nat := (octetAt os i).toNat

/-- A ring is defined. -/
def ringDefined (os : List Octet) (k : Nat) : Bool := byteAt os (ringOffset k) == 1

/-- Check 1 for one channel, field by field with its offset (R188). -/
def channelRange (os : List Octet) (c : Nat) : List (Bool × Nat) :=
  let b := channelOffset c
  let role := byteAt os b
  (decide (role ≤ 2), b) ::
    (if role = 1 then
      [ (decide (1 ≤ byteAt os (b + 1) ∧ byteAt os (b + 1) ≤ 15), b + 1),
        (decide (byteAt os (b + 2) ≤ 7), b + 2),
        (decide (byteAt os (b + 3) ≤ 2), b + 3),
        ([1, 2, 4, 8].contains (byteAt os (b + 4)), b + 4),
        (decide (byteAt os (b + 5) ≤ 1), b + 5),
        (decide (byteAt os (b + 6) ≤ 7 ∨ byteAt os (b + 6) = 0xFF), b + 6) ]
    else if role = 2 then
      [ (decide (byteAt os (b + 1) ≤ 1), b + 1), (decide (byteAt os (b + 2) ≤ 1), b + 2) ]
    else [])

/-- Check 1 for one ring, field by field with its offset (R188). -/
def ringRange (os : List Octet) (k : Nat) : List (Bool × Nat) :=
  let b := ringOffset k
  (decide (byteAt os b ≤ 1), b) ::
    (if byteAt os b = 1 then
      [ (decide (byteAt os (b + 1) ≤ 2), b + 1),
        (decide (fieldAt os (b + 2) 2 ≤ 2047), b + 2),
        (decide (4 ≤ fieldAt os (b + 4) 2 ∧ fieldAt os (b + 4) 2 ≤ 2048), b + 4),
        (decide (fieldAt os (b + 6) 2 < fieldAt os (b + 4) 2), b + 6),
        (decide (byteAt os (b + 1) ≠ 0 ∨ byteAt os (b + 8) ≤ 7), b + 8) ]
    else [])

/-- Check 1: every judged field with its offset, in ascending order of offset (R188). -/
def rangeChecks (os : List Octet) : List (Bool × Nat) :=
  let p := fieldAt os 4 4
  [ (decide (2 ≤ byteAt os 3 ∧ byteAt os 3 ≤ 16), 3),
    (decide (50000 ≤ p ∧ p ≤ 50000000 ∧ p % 1000 = 0), 4),
    (decide (1000 ≤ fieldAt os 8 2), 8),
    (decide (50 ≤ fieldAt os 10 2 ∧ fieldAt os 10 2 ≤ 32767), 10),
    (decide (100 ≤ fieldAt os 12 2), 12),
    (decide (1 ≤ byteAt os 14 ∧ byteAt os 14 ≤ 15), 14),
    (decide (byteAt os 16 ≤ 2), 16),
    (decide (32 ≤ fieldAt os 18 2 ∧ fieldAt os 18 2 ≤ 512 ∧ fieldAt os 18 2 % 8 = 0), 18),
    (decide (2 ≤ byteAt os 20 ∧ byteAt os 20 ≤ 64), 20),
    (decide (byteAt os 21 % 4 ≤ 2 ∧ byteAt os 21 < 16), 21),
    (decide (fieldAt os 22 2 < 2 ^ 15), 22) ] ++
    (List.range 8).flatMap (channelRange os) ++ (List.range 8).flatMap (ringRange os)

/-- The bit period in ns for a bit-rate code (R188). -/
def bitNs (code : Nat) : Nat := if code = 0 then 400 else if code = 1 then 200 else 100

/-- Check 5: O + (24 + B + 4) × 10 × bit period + 2W + C + 1,000 ≤ L (R188). -/
def slotFits (os : List Octet) : Bool :=
  decide (fieldAt os 8 2 + (24 + fieldAt os 18 2 + 4) * 10 * bitNs (byteAt os 16) + 2 * fieldAt os 10 2 +
    fieldAt os 12 2 + 1000 ≤ fieldAt os 4 4 / byteAt os 3)

/-- The defined rings, in ascending order. -/
def definedRings (os : List Octet) : List Nat := (List.range 8).filter (ringDefined os)

/-- Rings j and k, both defined, have a record place in common (R188). -/
def ringsOverlap (os : List Octet) (j k : Nat) : Bool :=
  let base := fun i => fieldAt os (ringOffset i + 2) 2
  let len := fun i => fieldAt os (ringOffset i + 4) 2
  decide (base j < base k + len k ∧ base k < base j + len j)

/-- Check 6: the first ring that does not lie inside the memory. -/
def ringOutside (os : List Octet) : Option Nat :=
  (definedRings os).find? fun k =>
    decide (Config.recordPlaces < fieldAt os (ringOffset k + 2) 2 + fieldAt os (ringOffset k + 4) 2)

/-- Check 7: the higher-numbered ring of the first overlapping pair. -/
def ringOverlapping (os : List Octet) : Option Nat :=
  (definedRings os).find? fun k => (definedRings os).any fun j => decide (j < k) && ringsOverlap os j k

/-- Check 8: the second ring whose source is REPORTS. -/
def secondReports (os : List Octet) : Option Nat :=
  ((definedRings os).filter fun k => byteAt os (ringOffset k + 1) == 2)[1]?

/-- Check 9: the first CAPTURE channel whose ring is not a LOCAL_CHANNEL ring of that channel. -/
def channelRingWrong (os : List Octet) : Option Nat :=
  (List.range 8).find? fun c =>
    let ring := byteAt os (channelOffset c + 6)
    byteAt os (channelOffset c) == 1 && ring != 0xFF &&
      !(ringDefined os ring && byteAt os (ringOffset ring + 1) == 0 && byteAt os (ringOffset ring + 8) == c)

/-- The error code and field offset of the first check of R188 that the profile fails. -/
def profileError (os : List Octet) : Option (Octet × Nat) :=
  match (rangeChecks os).find? fun x => !x.1 with
  | some x => some (0x01, x.2)
  | none =>
    if fieldAt os 4 4 % byteAt os 3 ≠ 0 then some (0x02, 4)
    else if byteAt os 3 ≤ byteAt os 2 then some (0x03, 2)
    else if fieldAt os 4 4 / 20 < fieldAt os 12 2 then some (0x04, 12)
    else if !slotFits os then some (0x05, 18)
    else
      match ringOutside os, ringOverlapping os, secondReports os, channelRingWrong os with
      | some k, _, _, _ => some (0x06, ringOffset k + 2)
      | none, some k, _, _ => some (0x07, ringOffset k + 2)
      | none, none, some k, _ => some (0x08, ringOffset k + 1)
      | none, none, none, some c => some (0x09, channelOffset c + 6)
      | none, none, none, none => none

/-- A channel's role and settings (10.7.6). -/
def channelCfgOf (os : List Octet) (c : Nat) : ChannelCfg :=
  let b := channelOffset c
  if byteAt os b = 1 then
    .capture
      { filterLen := byteAt os (b + 1)
        sampleExp := byteAt os (b + 2)
        edgeSel := (edgeSelOf (octetAt os (b + 3))).getD .either
        prescaler := byteAt os (b + 4)
        publish := byteAt os (b + 5) == 1
        ring := if byteAt os (b + 6) = 0xFF then none else some (byteAt os (b + 6)) }
  else if byteAt os b = 2 then
    .drive
      { rest := levelOfBit (byteAt os (b + 1) == 1)
        safe := levelOfBit (byteAt os (b + 2) == 1)
        permit := word16At os (b + 4) }
  else .unused

/-- A ring's definition (10.7.6). -/
def ringDefOf (os : List Octet) (k : Nat) : Option RingDef :=
  let b := ringOffset k
  if ringDefined os k then
    some
      { base := fieldAt os (b + 2) 2
        length := fieldAt os (b + 4) 2
        source :=
          if byteAt os (b + 1) = 0 then .localChannel (byteAt os (b + 8))
          else if byteAt os (b + 1) = 1 then .peerMarks (word16At os (b + 10)) (octetAt os (b + 8))
          else .reports
        low := fieldAt os (b + 6) 2 }
  else none

/-- The vector of the values of f at 0..n − 1. -/
def tableOf {α : Type} (n : Nat) (f : Nat → α) : Vector α n := ⟨⟨(List.range n).map f⟩, by simp⟩

/-- The release policy is MANUAL. -/
def manualOf (os : List Octet) : Bool := (octetAt os 21).getLsbD 2

/-- The profile that 216 octets give (10.7.6). -/
def profileOf (os : List Octet) : Profile where
  clusterTag := word16At os 0
  station := byteAt os 2
  stations := byteAt os 3
  period := fieldAt os 4 4
  sendOffset := fieldAt os 8 2
  window := fieldAt os 10 2
  corrLimit := fieldAt os 12 2
  minRefs := byteAt os 14
  holdover := byteAt os 15
  bitPeriods := bitNs (byteAt os 16) / 25
  bodyBudget := fieldAt os 18 2
  replyDeadline := byteAt os 20
  holdLine :=
    if byteAt os 21 % 4 = 1 then .activeHigh else if byteAt os 21 % 4 = 2 then .activeLow else .notUsed
  manual := manualOf os
  holdOnHoldover := (octetAt os 21).getLsbD 3
  noticeMask := word16At os 22
  lineDelays := tableOf 16 fun s => fieldAt os (24 + 2 * s) 2
  channels := tableOf 8 (channelCfgOf os)
  rings := tableOf 8 (ringDefOf os)

end Sys2Proof.Machine
end

