-- ==== Sys2Proof/Machine/Commands.lean ====
section
/-! DEFINITION. The attach-port commands as their owners take them (10.2): new state, result code and data. Values stand
in the order of the owning rule, in the encodings of R186 (assumption 17 where R186 leaves a choice). -/

namespace Sys2Proof.Machine

/-- An answer: the result octet and the data octets (R185). -/
structure Answer where
  code : Octet
  data : List Octet
  deriving DecidableEq, Repr

/-- An answer without data. -/
def Answer.only (code : Octet) : Answer := { code := code, data := [] }

/-- DONE with data. -/
def Answer.done (data : List Octet) : Answer := { code := Code.done, data := data }

/-- A Nat option of an optional bit vector. -/
def optNat {w : Nat} (v : Option (BitVec w)) : Option Nat := v.map BitVec.toNat

/-! ### Port commands -/

/-- LOAD_PROFILE (R187, R188). -/
def takeLoadProfile (octets : List Octet) (s : State) : State × Answer :=
  match s.timebase.sync with
  | .off =>
    match profileError octets with
    | some (code, offset) => (s, { code := Code.profileError, data := code :: le 2 offset })
    | none => ({ s with port := { s.port with loaded := some octets } }, Answer.done [])
  | .listen => (s, Answer.only Code.refusedState)
  | .coldstart => (s, Answer.only Code.refusedState)
  | .joining => (s, Answer.only Code.refusedState)
  | .synced => (s, Answer.only Code.refusedState)
  | .holdover => (s, Answer.only Code.refusedState)

/-- START hands the profile to every block (R189): R18, R46, R60, R61, R63, R91, R141, R147, R159, R196. -/
def startStation (octets : List Octet) (s : State) : State :=
  let p := profileOf octets
  let s1 :=
    { s with
      profile := p
      port := { s.port with started := true }
      roundCtl := { s.roundCtl with receiver := .waitIdle }
      journal := { s.journal with rings := ringsAtStart p }
      notice := { s.notice with mask := p.noticeMask } }
  let s2 := startHold ((List.range 8).foldl startChannel s1)
  let s3 := timeUpdate (fun t =>
    { t with
      listenTimer := some (listenInstant s2), coldRounds := 0, joinCount := 0, thin := 0, unheard := 0
      holdRounds := 0 }) s2
  enterSync .listen s3

/-- START (R189). -/
def takeStart (s : State) : State × Answer :=
  match s.timebase.sync, s.port.loaded with
  | .off, some octets => (startStation octets s, Answer.done [])
  | .off, none => (s, { code := Code.refusedState, data := [0x02] })
  | .listen, _ => (s, { code := Code.refusedState, data := [0x01] })
  | .coldstart, _ => (s, { code := Code.refusedState, data := [0x01] })
  | .joining, _ => (s, { code := Code.refusedState, data := [0x01] })
  | .synced, _ => (s, { code := Code.refusedState, data := [0x01] })
  | .holdover, _ => (s, { code := Code.refusedState, data := [0x01] })

/-- The time remaining on the listen timer: in LISTEN the timer less NT, else zero (R36). -/
def listenRemaining (t : Timebase) : Nat :=
  match t.sync, t.listenTimer with
  | .listen, some timer => (timer - t.nt).toNat
  | .listen, none => 0
  | .off, _ => 0
  | .coldstart, _ => 0
  | .joining, _ => 0
  | .synced, _ => 0
  | .holdover, _ => 0

/-- The data of STATUS (10.7.7). Bits 2 to 7 of octet 0, which no rule names, are 0 (DESIGN CHOICE, assumption 18). -/
def statusData (s : State) : List Octet :=
  let t := s.timebase
  let h := s.hold
  let station := match s.port.loaded with
    | none => 0xFF
    | some os => octetAt os 2
  let policy := match s.port.loaded with
    | none => 0xFF
    | some os => flagOctet (manualOf os)
  [bitsOctet [s.port.loaded.isSome, s.port.started], station, octetOf (syncCode t.sync)] ++ le 2 t.coldAttempts.toNat ++
    [octetOf t.coldRounds, octetOf t.joinCount, octetOf t.thin, octetOf t.unheard, octetOf t.holdRounds] ++
    le 6 (listenRemaining t) ++ [octetOf t.refs, octetOf t.refsNaming] ++ leSigned 4 t.corr ++
    [octetOf t.corrCount, flagOctet t.corrApplied, flagOctet h.held, octetOf h.reasons, flagOctet h.releasePending,
      flagOctet h.lineActive, policy] ++ le 2 s.notice.pending.toNat ++ [flagOctet s.noticeLow]

/-- STATUS (R190). -/
def takeStatus (s : State) : State × Answer := (s, Answer.done (statusData s))

/-- READ_PROFILE (R191). -/
def takeReadProfile (s : State) : State × Answer :=
  match s.port.loaded with
  | none => (s, Answer.only Code.notFound)
  | some os => (s, Answer.done (flagOctet s.port.started :: os))

/-- SOFT_RESET: the reset is recorded as due (R198). -/
def takeSoftReset (s : State) : State × Answer :=
  ({ s with port := { s.port with resetDue := true } }, Answer.done [])

/-! ### Timebase, round controller, channel units -/

/-- The data of READ_TIME (R15, 10.7.9). -/
def timeData (t : Timebase) : List Octet :=
  le 6 t.nt.toNat ++ le 2 t.round.toNat ++ le 6 t.rs.toNat ++ leSigned 4 t.corr ++
    [octetOf t.corrCount, flagOctet t.corrApplied] ++ leSigned 4 t.slew

/-- READ_TIME answers with the values of its step (R15). They are taken with the command, and again as the step ends
(captureTime; assumption 37): a round start or an adoption of the same step, whenever it is taken, is in them. -/
def takeReadTime (s : State) : State × Answer := (s, Answer.done (timeData s.timebase))

/-- An optional signed value in two octets. -/
def optionalSigned2 : Option Int → List Octet
  | none => 0 :: zeros 2
  | some v => 1 :: leSigned 2 v

/-- A peer table entry (R53); the four header flags stand in bits 0 to 3 of one octet (DESIGN CHOICE, assumption 17). -/
def peerData (p : Peer) : List Octet :=
  octetOf (peerStateCode p.state) :: (optional 2 (optNat p.lastRound) ++ [octetOf p.silent] ++
    optionalSigned2 p.lastDev ++ le 2 p.lastHeard.toNat ++
    [bitsOctet [p.flags.synced, p.flags.holdover, p.flags.held, p.flags.swapSkipped]] ++ optional 2 (optNat p.lastGen) ++
    le 2 p.checkFails.toNat ++ le 2 p.misplaced.toNat ++ le 2 p.mismatches.toNat ++ le 2 p.foreign.toNat)

/-- The station-level values (R58). -/
def stationData (r : RoundCtl) : List Octet :=
  le 2 r.collisions.toNat ++ le 2 r.duplicates.toNat ++ le 2 r.purged.toNat ++ le 2 r.reportDrops.toNat ++
    [octetOf r.queue.length, octetOf (r.queue.filter Item.isReport).length, flagOctet r.inFlight.isSome]

/-- READ_PEER (R58). -/
def takeReadPeer (station : Nat) (s : State) : State × Answer :=
  if 15 < station then (s, Answer.only Code.invalid)
  else if s.port.started && station == s.profile.station then (s, Answer.done (stationData s.roundCtl))
  else (s, Answer.done (peerData ((s.roundCtl.peers[station]?).getD Peer.reset)))

/-- A mark with all its fields (R67). -/
def markData (m : Mark) : List Octet :=
  [octetOf m.station, octetOf m.channel, octetOf (edgeCode m.edge)] ++ le 2 m.seq.toNat ++ le 6 m.time.toNat ++
    [flagOctet m.unsynced]

/-- The last mark made, or absent. -/
def optionalMark : Option Mark → List Octet
  | none => 0 :: zeros 12
  | some m => 1 :: markData m

/-- An optional level. -/
def optionalLevel (l : Option Level) : List Octet := optional 1 (l.map levelCode)

/-- The data of READ_CHANNEL (R74). An accepted level that is not settled stands as an absent value. The candidate level and
the run start have a presence octet each, and so has the current level of a DRIVE channel, whose field (8.1) may be absent
but which no such answer lacks (DESIGN CHOICE, assumption 17). -/
def channelData (cfg : ChannelCfg) (c : Channel) : List Octet :=
  match cfg with
  | .unused => [0]
  | .capture _ =>
    let running := c.filter.run ≠ 0
    1 :: (optionalLevel c.filter.accepted ++ [octetOf c.filter.run] ++
      optionalLevel (if running then some c.filter.candidate else none) ++
      optional 6 (if running then some c.filter.runStart.toNat else none) ++ [octetOf c.prescale] ++
      le 2 c.markSeq.toNat ++ le 2 c.publishLoss.toNat ++ optionalMark c.lastMark)
  | .drive d =>
    2 :: (optionalLevel c.drive.level ++ [octetOf (levelCode d.rest), octetOf (levelCode d.safe)] ++
      optional 6 (optNat c.drive.lastChange) ++ le 2 c.drive.changes.toNat)

/-- READ_CHANNEL (R74). -/
def takeReadChannel (channel : Nat) (s : State) : State × Answer :=
  match s.channels[channel]? with
  | none => (s, Answer.only Code.invalid)
  | some c =>
    (s, Answer.done (channelData (channelCfg s channel) { c with drive := shownDrive channel c.drive s }))

/-! ### Action unit -/

/-- ARM (R97, R98). -/
def takeArm (channel : Nat) (f : ArmFields) (s : State) : State × Answer :=
  if !s.port.started then (s, Answer.only Code.refusedState)
  else
    match judgeArm none channel f s with
    | some r => (s, Answer.only r.code)
    | none =>
      match freeEntry s with
      | none => (s, Answer.only Code.refusedFull)
      | some i =>
        let (s1, tag) := armLocally i channel f s
        (s1, Answer.done ([octetOf i, tag] ++ le 4 s.action.armSeq.toNat))

/-- The code of an entry's state; 0 is FREE (R199). -/
def entryStateCode : EntryState → Nat
  | .waiting _ => 1
  | .scheduled _ => 2
  | .active _ _ _ => 3

/-- CANCEL (R110). -/
def takeCancel (index : Nat) (tag : Octet) (s : State) : State × Answer :=
  if !s.port.started then (s, Answer.only Code.refusedState)
  else if 47 < index then (s, Answer.only Code.invalid)
  else
    match entryAt s index with
    | none => (s, Answer.only Code.notFound)
    | some e =>
      if e.tag ≠ tag then (s, Answer.only Code.notFound)
      else (cancelEntry index s, Answer.done [octetOf (entryStateCode e.state)])

/-- The fields of a trigger (R92, R119). The interval of an AT trigger, which R92 gives only with repeats, has a presence
octet (DESIGN CHOICE, assumption 17). -/
def triggerData : Trigger → List Octet
  | .atTime t i => 0 :: (le 6 t.toNat ++ optional 4 (optNat i))
  | .onMark st ch e d m =>
    [1, octetOf st, octetOf ch, octetOf (edgeSelCode e)] ++ le 4 d.toNat ++ optional 2 (optNat m)

/-- The fields of an effect (R92). -/
def effectData : Effect → List Octet
  | .set l => [0, octetOf (levelCode l)]
  | .toggle => [1]
  | .pulse l w => [2, octetOf (levelCode l)] ++ le 4 w.toNat

/-- The data of READ_ENTRY for a non-FREE entry (R119). The next fire time, the pulse end time and the last used mark sequence
stand with a presence octet in every state and for either trigger, and cancel pending, clear outside ACTIVE, has none (DESIGN
CHOICE, assumption 17). -/
def entryData (e : Entry) : List Octet :=
  let (next, ends, cancelPending) := match e.state with
    | .waiting _ => (none, none, false)
    | .scheduled n => (some n.toNat, none, false)
    | .active p _ c => (none, some p.toNat, c)
  [octetOf (entryStateCode e.state), octetOf e.owner, e.tag, octetOf e.channel] ++ triggerData e.trigger ++
    effectData e.effect ++ [octetOf e.remaining] ++ le 2 e.fireCount ++ optional 6 (optNat e.lastFire) ++
    optional 6 (optNat e.expiry) ++ le 4 e.armSeq.toNat ++ optional 6 next ++ optional 6 ends ++
    optional 2 (optNat e.lastUsed) ++ [flagOctet cancelPending]

/-- READ_ENTRY (R119). -/
def takeReadEntry (index : Nat) (s : State) : State × Answer :=
  if 47 < index then (s, Answer.only Code.invalid)
  else
    match entryAt s index with
    | none => (s, Answer.done [0])
    | some e => (s, Answer.done (entryData e))

/-! ### Request unit -/

/-- Check 2 of R166. -/
def remoteArmValid (target channel : Nat) (f : ArmFields) (s : State) : Bool :=
  decide (target < s.profile.stations) && target != s.profile.station && decide (channel < 8) &&
    (f.effect != 2 || decide (25 ≤ f.width.toNat)) && f.intervalValid && f.expiryCoversTime &&
    match f.trigger with
    | .atTime _ _ => true
    | .onMark station _ _ _ _ => decide (station.toNat < s.profile.stations)

/-- ARM_REMOTE (R165, R166). -/
def takeArmRemote (target channel : Nat) (f : ArmFields) (s : State) : State × Answer :=
  if !trusted s.timebase.sync then (s, Answer.only Code.refusedState)
  else if !remoteArmValid target channel f s then (s, Answer.only Code.invalid)
  else
    match freeRecord s with
    | none => (s, { code := Code.refusedFull, data := [0x00] })
    | some place =>
      let tag := firstTag s.request.tagCounter fun t => !(recordsWhere (fun r => r.tag == t) s).isEmpty
      match offerRequest (.arm target channel tag f) s with
      | none => (s, { code := Code.refusedFull, data := [0x01] })
      | some s1 =>
        let record :=
          { tag := tag, target := target, channel := channel, state := .queued, cancelRequested := false
            roundSent := none }
        let s2 := setRecord place (some record) s1
        ({ s2 with request := { s2.request with tagCounter := tag + 1 } }, Answer.done [tag, octetOf place])

/-- The data of a CANCEL_REMOTE answer: the disposition, and the record's state after the command, or none (R173). The state
has a presence octet whatever the disposition (DESIGN CHOICE, assumption 17). -/
def cancelRemoteData (disposition : Nat) (state : Option OutState) : List Octet :=
  octetOf disposition :: optional 1 (state.map outStateCode)

/-- A CANCEL item for a record is offered (R173). -/
def offerCancel (place : Nat) (r : OutRecord) (s : State) : State × Answer :=
  match offerRequest (.cancel r.target r.tag) s with
  | none => (s, { code := Code.refusedFull, data := [0x01] })
  | some s1 =>
    (setRecord place (some { r with cancelRequested := true }) s1, Answer.done (cancelRemoteData 1 (some r.state)))

/-- CANCEL_REMOTE of a record (R173). -/
def cancelRecord (place : Nat) (r : OutRecord) (s : State) : State × Answer :=
  if r.cancelRequested then (s, Answer.done (cancelRemoteData 2 (some r.state)))
  else
    match r.state with
    | .queued =>
      match withdrawArm r.target r.tag s with
      | some s1 =>
        (completeRecord place Code.withdrawn Carried.nothing s1, Answer.done (cancelRemoteData 0 none))
      | none => offerCancel place r s
    | .awaiting => offerCancel place r s
    | .accepted => offerCancel place r s

/-- CANCEL_REMOTE (R173). -/
def takeCancelRemote (tag : Octet) (s : State) : State × Answer :=
  if !s.port.started then (s, Answer.only Code.refusedState)
  else
    match (recordsWhere (fun r => r.tag == tag) s).head? with
    | none => (s, Answer.only Code.notFound)
    | some place =>
      match recordOf s place with
      | none => (s, Answer.only Code.notFound)
      | some r => cancelRecord place r s

/-- A place of the outbound table (R164). One presence octet stands before a record, and one before its round sent, which it
has from AWAITING on (DESIGN CHOICE, assumption 17). -/
def outRecordData : Option OutRecord → List Octet
  | none => 0 :: zeros 8
  | some r =>
    [1, r.tag, octetOf r.target, octetOf r.channel, octetOf (outStateCode r.state), flagOctet r.cancelRequested] ++
      optional 2 (optNat r.roundSent)

/-- READ_OUTBOUND (R179). -/
def takeReadOutbound (s : State) : State × Answer :=
  (s, Answer.done ([s.request.tagCounter] ++ le 2 s.request.unsolicited.toNat ++
    [octetOf (recordsWhere (fun _ => true) s).length] ++ s.request.table.toList.flatMap outRecordData))

/-! ### Cycle unit -/

/-- STAGE_ENTRY (R123). -/
def takeStageEntry (index : Nat) (entry : List Octet) (s : State) : State × Answer :=
  if !s.port.started then (s, Answer.only Code.refusedState)
  else if 31 < index then (s, Answer.only Code.invalid)
  else
    match cyclicEntryOf entry with
    | none => (s, Answer.only Code.invalid)
    | some c =>
      let bank := tableUpdate s.cycle.stagedBank index fun _ => some c
      (cycleUpdate (fun u => { u.withStaged bank with staged := .editing }) s,
        Answer.done [octetOf (filledPlaces bank)])

/-- CLEAR_STAGED (R124). -/
def takeClearStaged (first count : Nat) (s : State) : State × Answer :=
  if !s.port.started then (s, Answer.only Code.refusedState)
  else if 31 < first ∨ count = 0 ∨ 32 < first + count then (s, Answer.only Code.invalid)
  else
    let bank := clearPlaces s.cycle.stagedBank first count
    let staged := if filledPlaces bank = 0 then Staged.empty else .editing
    (cycleUpdate (fun u => { u.withStaged bank with staged := staged }) s,
      Answer.done [octetOf (stagedCode staged), octetOf (filledPlaces bank)])

/-- MARK_READY (R125). -/
def takeMarkReady (s : State) : State × Answer :=
  if !s.port.started then (s, Answer.only Code.refusedState)
  else
    match stagedFault s with
    | some (i, reason) => (s, { code := Code.invalid, data := [octetOf i, reason.code] })
    | none =>
      (cycleUpdate (fun u => { u with staged := .ready }) s, Answer.done [octetOf (filledPlaces s.cycle.stagedBank)])

/-- A place of a bank (R140, 10.7.5). -/
def bankPlaceData : Option CyclicEntry → List Octet
  | none => 0 :: zeros 12
  | some c => 1 :: cyclicEntryOctets c

/-- The data of READ_BANK (R140). The role is 0 for A and 1 for B, and the filled places of A come before those of B (DESIGN
CHOICE, assumption 17). -/
def bankData (c : CycleUnit) (bank : Bank) (first count : Nat) : List Octet :=
  [octetOf (match c.running with
    | .a => 0
    | .b => 1), octetOf (stagedCode c.staged)] ++ le 2 c.generation.toNat ++ optional 2 (optNat c.pendingSwap) ++
    [flagOctet c.skip, octetOf (filledPlaces c.bankA), octetOf (filledPlaces c.bankB), octetOf c.pulseEnds.length] ++
    ((bank.toList.drop first).take count).flatMap bankPlaceData

/-- READ_BANK (R140). -/
def takeReadBank (bank first count : Nat) (s : State) : State × Answer :=
  if 1 < bank ∨ 31 < first ∨ count = 0 ∨ 8 < count then (s, Answer.only Code.invalid)
  else
    (s, Answer.done
      (bankData s.cycle (if bank = 0 then s.cycle.runningBank else s.cycle.stagedBank) first count))

/-- PROPOSE_SWAP (R131). The pending round that stands after a proposal is always present, and has no presence octet, though
its field (R120) may be absent (DESIGN CHOICE, assumption 17). -/
def takeProposeSwap (round : Word16) (s : State) : State × Answer :=
  match s.timebase.sync with
  | .synced =>
    let ahead := (round - s.timebase.round).toNat
    if ahead < 2 ∨ 1000 < ahead then (s, Answer.only Code.invalid)
    else
      let s1 := propose round s
      let pending := s1.cycle.pendingSwap.getD 0
      (s1, Answer.done (le 2 pending.toNat ++ [flagOctet (pending == round)]))
  | .off => (s, Answer.only Code.refusedState)
  | .listen => (s, Answer.only Code.refusedState)
  | .coldstart => (s, Answer.only Code.refusedState)
  | .joining => (s, Answer.only Code.refusedState)
  | .holdover => (s, Answer.only Code.refusedState)

/-! ### Journal unit -/

/-- The ring operand of the ring commands: a ring that is served, or the answer (R87). -/
def judgeRing (ring : Nat) (s : State) : Ring ⊕ Answer :=
  if 7 < ring then .inr (Answer.only Code.invalid)
  else if !s.port.started then .inr (Answer.only Code.refusedState)
  else
    match ringAt s ring with
    | none => .inr (Answer.only Code.notFound)
    | some r => .inl r

/-- The source of a ring with its sets (R75). -/
def sourceData : RingSource → List Octet
  | .localChannel c => [0, octetOf c]
  | .peerMarks stations channels => 1 :: (le 2 stations.toNat ++ [channels])
  | .reports => [2]

/-- The data of RING_STATUS (R90). -/
def ringData (r : Ring) (discarded : Word16) : List Octet :=
  le 2 r.defn.base ++ le 2 r.defn.length ++ sourceData r.defn.source ++ le 2 r.defn.low ++ le 2 r.readIdx ++
    le 2 r.writeIdx ++ le 2 r.count ++ [flagOctet r.lowRoom] ++ le 2 r.pendingLoss.toNat ++ le 4 r.totalLost.toNat ++
    [flagOctet r.lossReported] ++ le 2 discarded.toNat

/-- RING_STATUS (R90). -/
def takeRingStatus (ring : Nat) (s : State) : State × Answer :=
  match judgeRing ring s with
  | .inr a => (s, a)
  | .inl r => (s, Answer.done (ringData r s.journal.discarded))

/-- The j oldest records of a ring, oldest first (R88). -/
def oldestRecords (mem : List Host.Cell) (r : Ring) (j : Nat) : List Octet :=
  (List.range j).flatMap fun i => recordAt mem (r.place ((r.readIdx + i) % r.defn.length))

/-- READ_RING (R88). -/
def takeReadRing (ring k : Nat) (s : State) : State × Answer :=
  match judgeRing ring s with
  | .inr a => (s, a)
  | .inl r =>
    if k = 0 ∨ 8 < k then (s, Answer.only Code.invalid)
    else
      let j := min k r.count
      (s, Answer.done (le 2 r.count ++ le 2 r.readIdx ++ [octetOf j] ++ oldestRecords s.journal.mem r j))

/-- RELEASE_RING (R89). -/
def takeReleaseRing (ring n : Nat) (s : State) : State × Answer :=
  match judgeRing ring s with
  | .inr a => (s, a)
  | .inl r =>
    if r.count < n then (s, Answer.only Code.invalid)
    else
      let r' := r.released n
      (setRing ring r' s, Answer.done (le 2 r'.count ++ le 2 r'.readIdx))

/-! ### Hold unit -/

/-- The data of HOLD and RELEASE answers (R150, R151). -/
def holdData (h : HoldUnit) : List Octet := [flagOctet h.held, octetOf h.reasons, flagOctet h.releasePending]

/-- HOLD (R150). -/
def takeHold (s : State) : State × Answer :=
  if !s.port.started then (s, Answer.only Code.refusedState)
  else
    let s1 := addReason .command s
    (s1, Answer.done (holdData s1.hold))

/-- RELEASE (R151). -/
def takeRelease (s : State) : State × Answer :=
  if !s.port.started then (s, Answer.only Code.refusedState)
  else if s.hold.reasonSync || s.hold.reasonLine then
    (s, { code := Code.holdReasons, data := [octetOf s.hold.reasons] })
  else
    let s1 := removeReason .command s
    (s1, Answer.done (holdData s1.hold))

/-! ### Notice unit -/

/-- READ_NOTICES (R194). -/
def takeReadNotices (s : State) : State × Answer :=
  let n := s.notice
  ({ s with notice := { n with reported := n.pending, raised := 0 } },
    Answer.done (le 2 n.pending.toNat ++ le 2 n.raised.toNat ++ le 2 n.mask.toNat))

/-- ACK_NOTICES (R195, R84). -/
def takeAckNotices (causes : Word16) (s : State) : State × Answer :=
  if causes.getLsbD 15 then (s, Answer.only Code.invalid)
  else
    let n := s.notice
    let cleared := causes &&& n.reported &&& ~~~n.raised
    let pending := n.pending &&& ~~~cleared
    let s1 := { s with notice := { n with pending := pending } }
    let s2 := if (causes &&& n.reported).getLsbD Cause.ringLost.bit then clearLossFlags s1 else s1
    (s2, Answer.done (le 2 pending.toNat))

/-- SET_NOTICE_MASK (R196). -/
def takeSetNoticeMask (causes : Word16) (s : State) : State × Answer :=
  if causes.getLsbD 15 then (s, Answer.only Code.invalid)
  else ({ s with notice := { s.notice with mask := causes } }, Answer.done (le 2 causes.toNat))

end Sys2Proof.Machine
end

