-- ==== Sys2Proof/Machine/Port.lean ====
section
/-! DEFINITION. The attach port (10.1): transactions octet by octet, the taking of a command, and the resets (10.6). -/

namespace Sys2Proof.Machine

/-- The port of the state changed by f. -/
def portUpdate (f : Port → Port) (s : State) : State := { s with port := f s.port }

/-! ### The command table (R186) -/

/-- The command that an octet names. -/
def Cmd.ofOctet (o : Octet) : Option Cmd :=
  if o = 0x10 then some .loadProfile
  else if o = 0x11 then some .start
  else if o = 0x12 then some .status
  else if o = 0x13 then some .readTime
  else if o = 0x14 then some .readPeer
  else if o = 0x15 then some .readChannel
  else if o = 0x16 then some .readProfile
  else if o = 0x20 then some .arm
  else if o = 0x21 then some .cancel
  else if o = 0x22 then some .readEntry
  else if o = 0x30 then some .armRemote
  else if o = 0x31 then some .cancelRemote
  else if o = 0x32 then some .readOutbound
  else if o = 0x40 then some .stageEntry
  else if o = 0x41 then some .clearStaged
  else if o = 0x42 then some .markReady
  else if o = 0x43 then some .readBank
  else if o = 0x44 then some .proposeSwap
  else if o = 0x50 then some .ringStatus
  else if o = 0x51 then some .readRing
  else if o = 0x52 then some .releaseRing
  else if o = 0x60 then some .hold
  else if o = 0x61 then some .release
  else if o = 0x70 then some .readNotices
  else if o = 0x71 then some .ackNotices
  else if o = 0x72 then some .setNoticeMask
  else if o = 0x7F then some .softReset
  else none

/-- The number of operand octets of a command. -/
def Cmd.operandCount : Cmd → Nat
  | .loadProfile => 216
  | .start => 0
  | .status => 0
  | .readTime => 0
  | .readPeer => 1
  | .readChannel => 1
  | .readProfile => 0
  | .arm => 29
  | .cancel => 2
  | .readEntry => 1
  | .armRemote => 30
  | .cancelRemote => 1
  | .readOutbound => 0
  | .stageEntry => 13
  | .clearStaged => 2
  | .markReady => 0
  | .readBank => 3
  | .proposeSwap => 2
  | .ringStatus => 1
  | .readRing => 2
  | .releaseRing => 3
  | .hold => 0
  | .release => 0
  | .readNotices => 0
  | .ackNotices => 2
  | .setNoticeMask => 2
  | .softReset => 0

/-- The reference periods until the answer is ready (R181). -/
def Cmd.periods : Cmd → Nat
  | .loadProfile => Config.profileAnswerPeriods
  | _ => Config.answerPeriods

/-- The command's answer carries values of the step in which it is taken, as the step leaves them (R15). -/
def Cmd.capturesTime : Cmd → Bool
  | .readTime => true
  | _ => false

/-- The command's owner takes it with its operand octets (R181, R186). -/
def takeCommand (cmd : Cmd) (ops : List Octet) (s : State) : State × Answer :=
  match cmd with
  | .loadProfile => takeLoadProfile ops s
  | .start => takeStart s
  | .status => takeStatus s
  | .readTime => takeReadTime s
  | .readPeer => takeReadPeer (byteAt ops 0) s
  | .readChannel => takeReadChannel (byteAt ops 0) s
  | .readProfile => takeReadProfile s
  | .arm => takeArm (byteAt ops 0) (armFieldsOf (ops.drop 1)) s
  | .cancel => takeCancel (byteAt ops 0) (octetAt ops 1) s
  | .readEntry => takeReadEntry (byteAt ops 0) s
  | .armRemote => takeArmRemote (byteAt ops 0) (byteAt ops 1) (armFieldsOf (ops.drop 2)) s
  | .cancelRemote => takeCancelRemote (octetAt ops 0) s
  | .readOutbound => takeReadOutbound s
  | .stageEntry => takeStageEntry (byteAt ops 0) (ops.drop 1) s
  | .clearStaged => takeClearStaged (byteAt ops 0) (byteAt ops 1) s
  | .markReady => takeMarkReady s
  | .readBank => takeReadBank (byteAt ops 0) (byteAt ops 1) (byteAt ops 2) s
  | .proposeSwap => takeProposeSwap (word16At ops 0) s
  | .ringStatus => takeRingStatus (byteAt ops 0) s
  | .readRing => takeReadRing (byteAt ops 0) (byteAt ops 1) s
  | .releaseRing => takeReleaseRing (byteAt ops 0) (fieldAt ops 1 2) s
  | .hold => takeHold s
  | .release => takeRelease s
  | .readNotices => takeReadNotices s
  | .ackNotices => takeAckNotices (word16At ops 0) s
  | .setNoticeMask => takeSetNoticeMask (word16At ops 0) s
  | .softReset => takeSoftReset s

/-! ### Resets -/

/-- Every block at its reset values; what stands outside the blocks is kept (R197). -/
def resetBlocks (s : State) : State :=
  { State.reset with pins := s.pins, freeCount := s.freeCount, pending := s.pending }

/-- The reset is taken: with SEL_N LOW the port waits to see it HIGH (R197). -/
def takeReset (s : State) : State :=
  portUpdate (fun p => { p with transaction := if s.pins.selLow then .awaitHigh else .idle }) (resetBlocks s)

/-- The station is held in reset (R197). -/
def takeResetAsserted (s : State) : State := { resetBlocks s with inReset := true }

/-! ### Transactions -/

/-- The lead octet (R182). -/
def leadOctet (p : Port) : Octet := if p.previousShort then Code.short else Code.done

/-- A transaction begins: COMMAND, with the lead octet on SDO (R181, R182). -/
def Port.begin (p : Port) : Port :=
  { p with transaction := .command, octetCount := 0, sdo := some (leadOctet p) }

/-- SEL_N falls. While the station is held in reset the port ignores it (R197). -/
def takeSelFall (s : State) : State :=
  if s.pins.selLow then s
  else
    let s1 := { s with pins := { s.pins with selLow := true } }
    if s.inReset then s1 else portUpdate Port.begin s1

/-- The port as a transaction ends: IDLE, SDO undriven, the previous-short flag set exactly when no command was taken
(R182, R183). Waiting for SEL_N HIGH is no transaction (R197). -/
def Port.ended (p : Port) : Port :=
  let short := match p.transaction with
    | .command => true
    | .operands _ _ => true
    | .answer _ _ _ => false
    | .trailing => false
    | .idle => p.previousShort
    | .awaitHigh => p.previousShort
  { p with transaction := .idle, octetCount := 0, sdo := none, previousShort := short, timeDue := false }

/-- SEL_N rises: the transaction ends, and a due SOFT_RESET is taken (R183, R198). -/
def takeSelRise (s : State) : State :=
  if s.pins.selLow then
    let s1 := { s with pins := { s.pins with selLow := false } }
    if s.inReset then s1
    else if s.port.resetDue then takeReset s1
    else portUpdate Port.ended s1
  else s

/-- The port after a command has been taken with an answer: ANSWER, with a wait octet on SDO (R181). -/
def Port.taken (now periods octets : Nat) (a : Answer) (p : Port) : Port :=
  { p with
    transaction := .answer (now + periods) false (a.code :: a.data), octetCount := octets, sdo := some 0xFF
    timeDue := false }

/-- The values of a READ_TIME taken in this step, in an answer that is not yet ready (R15, R181). -/
def Port.capturing (data : List Octet) (p : Port) : Port :=
  { p with
    timeDue := false
    transaction := match p.transaction with
      | .answer at' false _ => .answer at' false (Code.done :: data)
      | t => t }

/-- The step ends: the values of a READ_TIME taken in it are those that the timebase has then (R15; assumption 37). -/
def captureTime (s : State) : State :=
  if s.port.timeDue then portUpdate (Port.capturing (timeData s.timebase)) s else s

/-- A command is taken with all its operands: its owner acts, and the answer is formed (R181). -/
def takeWhole (cmd : Cmd) (ops : List Octet) (s : State) : State :=
  let (s1, a) := takeCommand cmd ops s
  portUpdate (fun p =>
    { Port.taken s.timebase.stepNo cmd.periods (1 + ops.length) a p with timeDue := cmd.capturesTime }) s1

/-- Operand octets of a command: it is taken when they are complete (R181); until then the port stays in OPERANDS with
0xFF on SDO. Octets after the last operand are ignored (R184). -/
def takeOperands (cmd : Cmd) (ops : List Octet) (s : State) : State :=
  if cmd.operandCount ≤ ops.length then takeWhole cmd (ops.take cmd.operandCount) s
  else
    portUpdate (fun p =>
      { p with transaction := .operands cmd ops, octetCount := 1 + ops.length, sdo := some 0xFF }) s

/-- The command octet completes (R181); an octet that names no command is answered UNKNOWN_COMMAND (R184). -/
def takeCommandOctet (o : Octet) (s : State) : State :=
  match Cmd.ofOctet o with
  | some cmd => takeOperands cmd [] s
  | none =>
    portUpdate (Port.taken s.timebase.stepNo Config.answerPeriods 1 (Answer.only Code.unknownCommand)) s

/-- The octet after the one that completes in ANSWER (R181): a wait octet until the answer is ready, then the result and
the data, then TRAILING. -/
def Port.nextAnswer (readyAt : Nat) (ready : Bool) (left : List Octet) (p : Port) : Port :=
  if ready then
    match left with
    | o :: rest =>
      { p with transaction := .answer readyAt true rest, octetCount := p.octetCount + 1, sdo := some o }
    | [] => { p with transaction := .trailing, octetCount := p.octetCount + 1, sdo := some 0 }
  else { p with octetCount := p.octetCount + 1, sdo := some 0xFF }

/-- An octet completes (R180). With no transaction, SCK is ignored. -/
def takePortOctet (o : Octet) (s : State) : State :=
  match s.port.transaction with
  | .idle => s
  | .awaitHigh => s
  | .command => takeCommandOctet o s
  | .operands cmd got => takeOperands cmd (got ++ [o]) s
  | .answer readyAt ready left => portUpdate (Port.nextAnswer readyAt ready left) s
  | .trailing => portUpdate (fun p => { p with octetCount := p.octetCount + 1, sdo := some 0 }) s

/-- ANSWER_READY, in the step that reaches the answer's readiness (R181): the octet that comes next on SDO is the result
octet unless its first bit has been driven already. -/
def takeAnswerReady (octetBegun : Bool) (s : State) : State :=
  match s.port.transaction with
  | .answer readyAt false left =>
    if readyAt ≤ s.timebase.stepNo then
      match octetBegun, left with
      | false, o :: rest =>
        portUpdate (fun p => { p with transaction := .answer readyAt true rest, sdo := some o }) s
      | false, [] => portUpdate (fun p => { p with transaction := .answer readyAt true left }) s
      | true, _ => portUpdate (fun p => { p with transaction := .answer readyAt true left }) s
    else s
  | .answer _ true _ => s
  | .idle => s
  | .awaitHigh => s
  | .command => s
  | .operands _ _ => s
  | .trailing => s

/-! ### The bits of an octet (R180) -/

/-- The bits of an octet in the order in which SDI and SDO carry them: most significant first. -/
def portBits (o : Octet) : List Bool := (List.range 8).map fun k => o.getLsbD (7 - k)

/-- The octet that the samples of SDI at eight rising edges of SCK give, oldest sample first. -/
def octetOfSamples (samples : List Bool) : Octet := octetOf (samples.foldl (fun n b => 2 * n + b.toNat) 0)

/-- Rising edges of SCK, each with its sample of SDI, after the samples `got` of the octet in progress: every eighth edge
completes an octet in. The result is the state and the samples of an octet that is not complete, which a rise of SEL_N
drops. -/
def takeRises : List Bool → List Bool → State → State × List Bool
  | got, [], s => (s, got)
  | got, b :: rest, s =>
    if got.length = 7 then takeRises [] rest (takePortOctet (octetOfSamples (got ++ [b])) s)
    else takeRises (got ++ [b]) rest s

/-- The bit on SDO after a number of falling edges of SCK within the octet in progress, 0 to 7: the first bit is driven at the
falling edge that ends the octet before, or at the fall of SEL_N. None while SDO is undriven. -/
def State.sdoBit (s : State) (falls : Nat) : Option Bool := s.port.sdo.map fun o => o.getLsbD (7 - falls)

/-! ### Command rows -/

/-- A new transaction: the one in progress, if any, ends first (assumption 5). -/
def freshTransaction (s : State) : State := takeSelFall (takeSelRise s)

/-- The state in which the octets of a command row complete: its transaction has begun, and any operand octets clocked in
so far are the first of the row's (assumption 5). -/
def openFor (cmd : Cmd) (ops : List Octet) (s : State) : State :=
  match s.port.transaction with
  | .command => s
  | .operands c got => if c = cmd ∧ got <+: ops then s else freshTransaction s
  | .idle => freshTransaction s
  | .awaitHigh => freshTransaction s
  | .answer _ _ _ => freshTransaction s
  | .trailing => freshTransaction s

/-- A command row with its operand octets (R181; assumption 5). While the station is held in reset the port ignores its
lines (R197). -/
def portCommand (cmd : Cmd) (ops : List Octet) (s : State) : State :=
  if s.inReset then s else takeOperands cmd ops (openFor cmd ops s)

/-- The row of a command octet that names no command (R184; assumption 5). -/
def portUnknown (o : Octet) (s : State) : State :=
  if s.inReset then s
  else
    match s.port.transaction with
    | .command => takeCommandOctet o s
    | .operands _ _ => takeCommandOctet o (freshTransaction s)
    | .idle => takeCommandOctet o (freshTransaction s)
    | .awaitHigh => takeCommandOctet o (freshTransaction s)
    | .answer _ _ _ => takeCommandOctet o (freshTransaction s)
    | .trailing => takeCommandOctet o (freshTransaction s)

end Sys2Proof.Machine
end

