-- ==== Sys2Proof/Machine/Capture.lean ====
section
/-! DEFINITION. The accepting of an edge and the making of a mark (4.3, 4.4). -/

namespace Sys2Proof.Machine

/-- The channel c of the state changed by f. -/
def channelUpdate (c : Nat) (f : Channel → Channel) (s : State) : State :=
  { s with channels := tableUpdate s.channels c f }

/-- The filter that accepts its candidate level (R64). -/
def Filter.accept (f : Filter) : Filter := { f with accepted := some f.candidate, run := 0, edgeDue := false }

/-- The mark that a channel makes from the edge it accepts (R67, R68). -/
def newMark (channel : Nat) (ch : Channel) (s : State) : Mark where
  station := s.profile.station
  channel := channel
  edge := edgeTo ch.filter.candidate
  seq := ch.markSeq
  time := ch.filter.runStart
  unsynced := !trusted s.timebase.sync

/-- A synced mark of a publishing channel is offered to the send queue (R70). -/
def publishMark (cfg : CaptureCfg) (channel : Nat) (m : Mark) (s : State) : State :=
  if cfg.publish && !m.unsynced then offerMark channel m s else s

/-- A synced mark is handed to the matcher (R71). -/
def matchMark (m : Mark) (s : State) : State := if m.unsynced then s else takeMark m s

/-- The three deliveries of a mark. The journal takes it apart from the others; whether the matcher takes it before the
send queue is left open (4.4; assumption 7). Where the matcher's handling of one mark offers several REPORT items, R42 and
R70 would let the offer of the mark fall between two of them; the model has it before all of them or after all of them
(DESIGN CHOICE, assumption 7). -/
def deliverMark (cfg : CaptureCfg) (channel : Nat) (matcherFirst : Bool) (m : Mark) (s : State) : State :=
  let s1 := journalLocalMark cfg.ring m s
  if matcherFirst then publishMark cfg channel m (matchMark m s1) else matchMark m (publishMark cfg channel m s1)

/-- The channel makes a mark and keeps a copy of it (R67). -/
def Channel.marked (m : Mark) (ch : Channel) : Channel :=
  { ch with prescale := 0, markSeq := ch.markSeq + 1, lastMark := some m }

/-- The edge that a channel accepts, judged by the edge select and the prescaler (R66). -/
def takeEdgeOf (channel : Nat) (cfg : CaptureCfg) (matcherFirst : Bool) (ch : Channel) (s : State) : State :=
  let s1 := channelUpdate channel (fun c => { c with filter := c.filter.accept }) s
  if !edgeQualifies cfg.edgeSel (edgeTo ch.filter.candidate) then s1
  else if ch.prescale + 1 < cfg.prescaler then
    channelUpdate channel (fun c => { c with prescale := c.prescale + 1 }) s1
  else
    let m := newMark channel ch s
    deliverMark cfg channel matcherFirst m (channelUpdate channel (Channel.marked m) s1)

/-- EDGE_ACCEPTED, in the step of the sample that completed the run (R64). -/
def takeEdge (channel : Nat) (matcherFirst : Bool) (s : State) : State :=
  match channelCfg s channel, s.channels[channel]? with
  | .capture cfg, some ch => if ch.filter.edgeDue then takeEdgeOf channel cfg matcherFirst ch s else s
  | .capture _, none => s
  | .unused, _ => s
  | .drive _, _ => s

end Sys2Proof.Machine
end

