-- ==== Sys2Proof/Machine/Clock.lean ====
section
/-! DEFINITION. The reference period (R1, R12, R63, R149) and the taking of what is due in the step that ends (R4). -/

namespace Sys2Proof.Machine

/-! ### What is due in a step (R4; assumption 3) -/

/-- FRAME_FAILED of a reception that the own send instant cut short (R47). -/
def drainCut (s : State) : State :=
  match s.roundCtl.receiver with
  | .cutShort _ => takeFrameFailed s
  | .notReceiving => s
  | .waitIdle => s
  | .ready => s
  | .receiving _ => s

/-- The events of the port, the lines and the own frame that are due. -/
def drainLines (s : State) : State :=
  let s1 := (List.range 8).foldl (fun s c => takeEdge c false s) (takeAnswerReady true s)
  takeFrameSent (takeHoldLine s1)

/-- The ends of rounds and of the listen timer that are due. -/
def drainRoundEnds (s : State) : State := takeRoundEnds (takeListenExpiry s)

/-- The expiries and the fires that are due. -/
def drainActions (s : State) : State := drainStarts ((List.range 48).foldl (fun s i => takeExpiry i s) s)

/-- Every event that is due in this step and has not been named (assumption 3); after them the values of a READ_TIME of the
step are captured (R15). -/
def drainDue (s : State) : State :=
  captureTime (drainCut (takeSendInstant (drainActions (drainRoundEnds (drainPulseEnds (drainLines s))))))

/-! ### The next step -/

/-- The next reference period makes an adjusted step (R12). -/
def Timebase.adjustDue (t : Timebase) : Bool := t.slew != 0 && decide (t.slewLeft ≤ 1)

/-- NT advances by one step: 24 ns or 26 ns for an adjusted step, which moves the remaining slew one nanosecond toward
zero, and 25 ns otherwise (R1, R12). -/
def Timebase.advance (t : Timebase) : Timebase :=
  if t.adjustDue then
    if 0 < t.slew then
      { t with nt := t.nt + 24, stepNo := t.stepNo + 1, slew := t.slew - 1, slewLeft := t.spacing }
    else { t with nt := t.nt + 26, stepNo := t.stepNo + 1, slew := t.slew + 1, slewLeft := t.spacing }
  else { t with nt := t.nt + 25, stepNo := t.stepNo + 1, slewLeft := t.slewLeft - 1 }

/-- The input lines of the new step. -/
def setLines (lines : Octet) (hold : Level) (s : State) : State :=
  { s with pins := { s.pins with lines := lines, hold := hold } }

/-- The step settled so far stands, and the channels begin a new one (R143). -/
def beginStep (s : State) : State :=
  { s with
    timebase := s.timebase.advance
    channels := tableMap (fun (c : Channel) => { c with drive := c.drive.newStep }) s.channels }

/-- The samples of the new step: CAPTURE channels (R63) and HOLD (R149), from START on. -/
def takeSamples (s : State) : State :=
  if s.port.started then sampleHold ((List.range 8).foldl capturePeriod s) else s

/-- A reference period begins: NT advances and the lines are sampled (R1). An adoption of this step comes later, and the
operand of FRAME_COMPLETE says which channels take their sample after it (R65; DESIGN CHOICE, assumption 7). A command of
the step comes after its samples, so READ_CHANNEL shows the run count and a settling as the step's sample left them (R74
speaks of marks only; DESIGN CHOICE, assumption 41). -/
def newStep (lines : Octet) (hold : Level) (s : State) : State :=
  takeSamples (setLines lines hold (beginStep s))

/-- REFERENCE_PERIOD: what is due in the step that ends is taken first. While the station is held in reset its blocks hold
their reset values (R197). -/
def takePeriod (lines : Octet) (hold : Level) (s : State) : State :=
  if s.inReset then setLines lines hold s else newStep lines hold (drainDue s)

/-- ADJUSTED_STEP: a reference period in which the spacing count runs out (R12). Where it does not, there is no such event
(assumption 4). -/
def takeAdjusted (lines : Octet) (hold : Level) (s : State) : State :=
  if s.inReset then s
  else if (drainDue s).timebase.adjustDue then newStep lines hold (drainDue s) else s

end Sys2Proof.Machine
end

