-- ==== Sys2Proof/Machine/Events.lean ====
section
/-! DEFINITION. The meanings of the event rows. An event whose cause does not stand is no event: the state stands
(assumption 2). -/

namespace Sys2Proof.Machine

/-- RESET (R197): the hold in reset ends and every block has its reset values (assumption 26). -/
def execReset (s : State) : Host.Outcome State Fault Refusal :=
  .next (takeReset s)

/-- ADJUSTED_STEP (R1, R12). -/
def execAdjustedStep (lines : Octet) (hold : Level) (s : State) : Host.Outcome State Fault Refusal :=
  .next (takeAdjusted lines hold s)

/-- LISTEN_TIMER_EXPIRY (R19). -/
def execListenTimerExpiry (s : State) : Host.Outcome State Fault Refusal :=
  .next (takeListenExpiry s)

/-- ROUND_END (R6). -/
def execRoundEnd (order : RoundOrder) (s : State) : Host.Outcome State Fault Refusal :=
  .next (takeRoundEnd order s)

/-- OWN_SEND_INSTANT (R32, R38). -/
def execOwnSendInstant (s : State) : Host.Outcome State Fault Refusal :=
  .next (takeSendInstant s)

/-- COLLISION (R39). -/
def execCollision (s : State) : Host.Outcome State Fault Refusal :=
  .next (takeCollision s)

/-- FRAME_SENT_WHOLE (R38, R45). -/
def execFrameSentWhole (s : State) : Host.Outcome State Fault Refusal :=
  .next (takeFrameSent s)

/-- FRAME_COMPLETE (R47, R48). -/
def execFrameComplete (received : ReceivedFrame) (s : State) : Host.Outcome State Fault Refusal :=
  .next (takeFrameComplete received.octets received.sampledAfter s)

/-- FRAME_FAILED (R47). -/
def execFrameFailed (s : State) : Host.Outcome State Fault Refusal :=
  .next (takeFrameFailed s)

/-- EDGE_ACCEPTED (R64, R66, R67). -/
def execEdgeAccepted (channel : Nat) (matcherFirst : Bool) (s : State) : Host.Outcome State Fault Refusal :=
  .next (takeEdge channel matcherFirst s)

/-- HOLD_LINE_ACCEPTED (R149). -/
def execHoldLineAccepted (s : State) : Host.Outcome State Fault Refusal :=
  .next (takeHoldLine s)

/-- FIRE (R101, R102). -/
def execFire (s : State) : Host.Outcome State Fault Refusal :=
  .next (takeFire s)

/-- PULSE_END (R103). -/
def execPulseEnd (index : Nat) (s : State) : Host.Outcome State Fault Refusal :=
  .next (takePulseEnd index s)

/-- EXPIRY (R105). -/
def execExpiry (index : Nat) (s : State) : Host.Outcome State Fault Refusal :=
  .next (takeExpiry index s)

/-- CYCLIC_FIRE (R128). -/
def execCyclicFire (s : State) : Host.Outcome State Fault Refusal :=
  .next (takeCyclicFire s)

/-- CYCLIC_PULSE_END (R129). -/
def execCyclicPulseEnd (place : Nat) (s : State) : Host.Outcome State Fault Refusal :=
  .next (takeCyclicEnd place s)

/-- TRANSACTION_START (R181, R182). -/
def execTransactionStart (s : State) : Host.Outcome State Fault Refusal :=
  .next (takeSelFall s)

/-- TRANSACTION_END (R183, R198). -/
def execTransactionEnd (s : State) : Host.Outcome State Fault Refusal :=
  .next (takeSelRise s)

/-- ANSWER_READY (R181). -/
def execAnswerReady (octetBegun : Bool) (s : State) : Host.Outcome State Fault Refusal :=
  .next (takeAnswerReady octetBegun s)

/-- REFERENCE_PERIOD (R1). -/
def execReferencePeriod (lines : Octet) (hold : Level) (s : State) : Host.Outcome State Fault Refusal :=
  .next (takePeriod lines hold s)

/-- RECEPTION_START (R46). -/
def execReceptionStart (s : State) : Host.Outcome State Fault Refusal :=
  .next (takeReceptionStart s)

/-- LINE_IDLE (R46). -/
def execLineIdle (s : State) : Host.Outcome State Fault Refusal :=
  .next (takeLineIdle s)

/-- RESET_ASSERTED (R197). -/
def execResetAsserted (s : State) : Host.Outcome State Fault Refusal :=
  .next (takeResetAsserted s)

/-- PORT_OCTET (R180, R181). -/
def execPortOctet (sdi : Octet) (s : State) : Host.Outcome State Fault Refusal :=
  .next (takePortOctet sdi s)

end Sys2Proof.Machine
end

