-- ==== Sys2Proof/Machine/PortRows.lean ====
section
/-! DEFINITION. The meanings of the attach-port command rows: each is its taking (R181; assumption 5). -/

namespace Sys2Proof.Machine

/-- LOAD_PROFILE (R187, R188). -/
def execLoadProfile (profile : List Octet) (s : State) : Host.Outcome State Fault Refusal :=
  .next (portCommand .loadProfile profile s)

/-- START (R189). -/
def execStart (s : State) : Host.Outcome State Fault Refusal :=
  .next (portCommand .start [] s)

/-- STATUS (R190). -/
def execStatus (s : State) : Host.Outcome State Fault Refusal :=
  .next (portCommand .status [] s)

/-- READ_TIME (R15). -/
def execReadTime (s : State) : Host.Outcome State Fault Refusal :=
  .next (portCommand .readTime [] s)

/-- READ_PEER (R58). -/
def execReadPeer (station : Octet) (s : State) : Host.Outcome State Fault Refusal :=
  .next (portCommand .readPeer [station] s)

/-- READ_CHANNEL (R74). -/
def execReadChannel (channel : Octet) (s : State) : Host.Outcome State Fault Refusal :=
  .next (portCommand .readChannel [channel] s)

/-- READ_PROFILE (R191). -/
def execReadProfile (s : State) : Host.Outcome State Fault Refusal :=
  .next (portCommand .readProfile [] s)

/-- ARM (R97, R98). -/
def execArm (channel : Octet) (fields : List Octet) (s : State) : Host.Outcome State Fault Refusal :=
  .next (portCommand .arm (channel :: fields) s)

/-- CANCEL (R110). -/
def execCancel (index : Octet) (tag : Octet) (s : State) : Host.Outcome State Fault Refusal :=
  .next (portCommand .cancel [index, tag] s)

/-- READ_ENTRY (R119). -/
def execReadEntry (index : Octet) (s : State) : Host.Outcome State Fault Refusal :=
  .next (portCommand .readEntry [index] s)

/-- ARM_REMOTE (R166). -/
def execArmRemote (target : Octet) (channel : Octet) (fields : List Octet) (s : State) : Host.Outcome State Fault Refusal :=
  .next (portCommand .armRemote (target :: channel :: fields) s)

/-- CANCEL_REMOTE (R173). -/
def execCancelRemote (tag : Octet) (s : State) : Host.Outcome State Fault Refusal :=
  .next (portCommand .cancelRemote [tag] s)

/-- READ_OUTBOUND (R179). -/
def execReadOutbound (s : State) : Host.Outcome State Fault Refusal :=
  .next (portCommand .readOutbound [] s)

/-- STAGE_ENTRY (R123). -/
def execStageEntry (index : Octet) (entry : List Octet) (s : State) : Host.Outcome State Fault Refusal :=
  .next (portCommand .stageEntry (index :: entry) s)

/-- CLEAR_STAGED (R124). -/
def execClearStaged (first : Octet) (count : Octet) (s : State) : Host.Outcome State Fault Refusal :=
  .next (portCommand .clearStaged [first, count] s)

/-- MARK_READY (R125). -/
def execMarkReady (s : State) : Host.Outcome State Fault Refusal :=
  .next (portCommand .markReady [] s)

/-- READ_BANK (R140). -/
def execReadBank (bank : Octet) (first : Octet) (count : Octet) (s : State) : Host.Outcome State Fault Refusal :=
  .next (portCommand .readBank [bank, first, count] s)

/-- PROPOSE_SWAP (R131). -/
def execProposeSwap (round : Word16) (s : State) : Host.Outcome State Fault Refusal :=
  .next (portCommand .proposeSwap (le 2 round.toNat) s)

/-- RING_STATUS (R90). -/
def execRingStatus (ring : Octet) (s : State) : Host.Outcome State Fault Refusal :=
  .next (portCommand .ringStatus [ring] s)

/-- READ_RING (R88). -/
def execReadRing (ring : Octet) (k : Octet) (s : State) : Host.Outcome State Fault Refusal :=
  .next (portCommand .readRing [ring, k] s)

/-- RELEASE_RING (R89). -/
def execReleaseRing (ring : Octet) (n : Word16) (s : State) : Host.Outcome State Fault Refusal :=
  .next (portCommand .releaseRing (ring :: le 2 n.toNat) s)

/-- HOLD (R150). -/
def execHold (s : State) : Host.Outcome State Fault Refusal :=
  .next (portCommand .hold [] s)

/-- RELEASE (R151). -/
def execRelease (s : State) : Host.Outcome State Fault Refusal :=
  .next (portCommand .release [] s)

/-- READ_NOTICES (R194). -/
def execReadNotices (s : State) : Host.Outcome State Fault Refusal :=
  .next (portCommand .readNotices [] s)

/-- ACK_NOTICES (R195). -/
def execAckNotices (causes : Word16) (s : State) : Host.Outcome State Fault Refusal :=
  .next (portCommand .ackNotices (le 2 causes.toNat) s)

/-- SET_NOTICE_MASK (R196). -/
def execSetNoticeMask (causes : Word16) (s : State) : Host.Outcome State Fault Refusal :=
  .next (portCommand .setNoticeMask (le 2 causes.toNat) s)

/-- SOFT_RESET (R198). -/
def execSoftReset (s : State) : Host.Outcome State Fault Refusal :=
  .next (portCommand .softReset [] s)

/-- UNKNOWN_COMMAND (R184). -/
def execUnknownCommand (octet : Octet) (s : State) : Host.Outcome State Fault Refusal :=
  .next (portUnknown octet s)

end Sys2Proof.Machine
end

