-- ==== Sys2Proof/Machine/Dispatch.lean ====
section
/-! DEFINITION. One meaning for each command. -/

namespace Sys2Proof.Machine

def exec (i : Instr) (s : State) : Host.Outcome State Fault Refusal :=
  match i with
  | .reset => Sys2Proof.Machine.execReset s
  | .adjustedStep lines hold => Sys2Proof.Machine.execAdjustedStep lines hold s
  | .listenTimerExpiry => Sys2Proof.Machine.execListenTimerExpiry s
  | .roundEnd order => Sys2Proof.Machine.execRoundEnd order s
  | .ownSendInstant => Sys2Proof.Machine.execOwnSendInstant s
  | .collision => Sys2Proof.Machine.execCollision s
  | .frameSentWhole => Sys2Proof.Machine.execFrameSentWhole s
  | .frameComplete received => Sys2Proof.Machine.execFrameComplete received s
  | .frameFailed => Sys2Proof.Machine.execFrameFailed s
  | .edgeAccepted channel matcherFirst => Sys2Proof.Machine.execEdgeAccepted channel matcherFirst s
  | .holdLineAccepted => Sys2Proof.Machine.execHoldLineAccepted s
  | .fire => Sys2Proof.Machine.execFire s
  | .pulseEnd index => Sys2Proof.Machine.execPulseEnd index s
  | .expiry index => Sys2Proof.Machine.execExpiry index s
  | .cyclicFire => Sys2Proof.Machine.execCyclicFire s
  | .cyclicPulseEnd place => Sys2Proof.Machine.execCyclicPulseEnd place s
  | .transactionStart => Sys2Proof.Machine.execTransactionStart s
  | .transactionEnd => Sys2Proof.Machine.execTransactionEnd s
  | .answerReady octetBegun => Sys2Proof.Machine.execAnswerReady octetBegun s
  | .loadProfile profile => Sys2Proof.Machine.execLoadProfile profile s
  | .start => Sys2Proof.Machine.execStart s
  | .status => Sys2Proof.Machine.execStatus s
  | .readTime => Sys2Proof.Machine.execReadTime s
  | .readPeer station => Sys2Proof.Machine.execReadPeer station s
  | .readChannel channel => Sys2Proof.Machine.execReadChannel channel s
  | .readProfile => Sys2Proof.Machine.execReadProfile s
  | .arm channel fields => Sys2Proof.Machine.execArm channel fields s
  | .cancel index tag => Sys2Proof.Machine.execCancel index tag s
  | .readEntry index => Sys2Proof.Machine.execReadEntry index s
  | .armRemote target channel fields => Sys2Proof.Machine.execArmRemote target channel fields s
  | .cancelRemote tag => Sys2Proof.Machine.execCancelRemote tag s
  | .readOutbound => Sys2Proof.Machine.execReadOutbound s
  | .stageEntry index entry => Sys2Proof.Machine.execStageEntry index entry s
  | .clearStaged first count => Sys2Proof.Machine.execClearStaged first count s
  | .markReady => Sys2Proof.Machine.execMarkReady s
  | .readBank bank first count => Sys2Proof.Machine.execReadBank bank first count s
  | .proposeSwap round => Sys2Proof.Machine.execProposeSwap round s
  | .ringStatus ring => Sys2Proof.Machine.execRingStatus ring s
  | .readRing ring k => Sys2Proof.Machine.execReadRing ring k s
  | .releaseRing ring n => Sys2Proof.Machine.execReleaseRing ring n s
  | .hold => Sys2Proof.Machine.execHold s
  | .release => Sys2Proof.Machine.execRelease s
  | .readNotices => Sys2Proof.Machine.execReadNotices s
  | .ackNotices causes => Sys2Proof.Machine.execAckNotices causes s
  | .setNoticeMask causes => Sys2Proof.Machine.execSetNoticeMask causes s
  | .softReset => Sys2Proof.Machine.execSoftReset s
  | .unknownCommand octet => Sys2Proof.Machine.execUnknownCommand octet s
  | .referencePeriod lines hold => Sys2Proof.Machine.execReferencePeriod lines hold s
  | .receptionStart => Sys2Proof.Machine.execReceptionStart s
  | .lineIdle => Sys2Proof.Machine.execLineIdle s
  | .resetAsserted => Sys2Proof.Machine.execResetAsserted s
  | .portOctet sdi => Sys2Proof.Machine.execPortOctet sdi s

end Sys2Proof.Machine
end

