-- ==== Sys2Proof/WellFormed.lean ====
section
/-! DEFINITION. Which commands are well formed: operand counts of R186, index ranges, frame lengths. -/

namespace Sys2Proof

/-- The command octets of R186. -/
def commandOctets : List Octet :=
  [0x10, 0x11, 0x12, 0x13, 0x14, 0x15, 0x16, 0x20, 0x21, 0x22, 0x30, 0x31, 0x32, 0x40, 0x41, 0x42, 0x43, 0x44] ++
  [0x50, 0x51, 0x52, 0x60, 0x61, 0x70, 0x71, 0x72, 0x7F]

/-- The operands of a command have the shape the manual gives them. -/
def Instr.wellFormed : Instr → Bool
  | .reset => true
  | .adjustedStep _ _ => true
  | .listenTimerExpiry => true
  -- R120: a bank has 32 places, so that at most 32 fires at offset 0 are due.
  | .roundEnd order => match order.release with
    | .releaseFirst => true
    | .roundStartFirst fires => decide (fires ≤ 32)
  | .ownSendInstant => true
  | .collision => true
  | .frameSentWhole => true
  -- R37: a frame occupies 28 to 540 octets.
  | .frameComplete received => decide (28 ≤ received.octets.length ∧ received.octets.length ≤ 540)
  | .frameFailed => true
  | .edgeAccepted channel _ => decide (channel < 8)
  | .holdLineAccepted => true
  | .fire => true
  | .pulseEnd index => decide (index < 48)
  | .expiry index => decide (index < 48)
  | .cyclicFire => true
  -- R120: up to 40 pending cyclic pulse ends.
  | .cyclicPulseEnd place => decide (place < 40)
  | .transactionStart => true
  | .transactionEnd => true
  | .answerReady _ => true
  | .loadProfile profile => decide (profile.length = 216)
  | .start => true
  | .status => true
  | .readTime => true
  | .readPeer _ => true
  | .readChannel _ => true
  | .readProfile => true
  | .arm _ fields => decide (fields.length = 28)
  | .cancel _ _ => true
  | .readEntry _ => true
  | .armRemote _ _ fields => decide (fields.length = 28)
  | .cancelRemote _ => true
  | .readOutbound => true
  | .stageEntry _ entry => decide (entry.length = 12)
  | .clearStaged _ _ => true
  | .markReady => true
  | .readBank _ _ _ => true
  | .proposeSwap _ => true
  | .ringStatus _ => true
  | .readRing _ _ => true
  | .releaseRing _ _ => true
  | .hold => true
  | .release => true
  | .readNotices => true
  | .ackNotices _ => true
  | .setNoticeMask _ => true
  | .softReset => true
  -- R184: an octet that names no command.
  | .unknownCommand octet => !commandOctets.contains octet
  | .referencePeriod _ _ => true
  | .receptionStart => true
  | .lineIdle => true
  | .resetAsserted => true
  | .portOctet _ => true

end Sys2Proof
end

