-- ==== Sys2Proof/Safety.lean ====
section
/-! DEFINITION. The invariants of the station, each with the rule that gives it, and the states that statements start
from. -/

namespace Sys2Proof

/-- The octets of a command row on SDI: its command octet and its operands (R186). Rows of events have none. -/
def Instr.wire : Instr → Option (List Octet)
  | .loadProfile profile => some (0x10 :: profile)
  | .start => some [0x11]
  | .status => some [0x12]
  | .readTime => some [0x13]
  | .readPeer station => some [0x14, station]
  | .readChannel channel => some [0x15, channel]
  | .readProfile => some [0x16]
  | .arm channel fields => some (0x20 :: channel :: fields)
  | .cancel index tag => some [0x21, index, tag]
  | .readEntry index => some [0x22, index]
  | .armRemote target channel fields => some (0x30 :: target :: channel :: fields)
  | .cancelRemote tag => some [0x31, tag]
  | .readOutbound => some [0x32]
  | .stageEntry index entry => some (0x40 :: index :: entry)
  | .clearStaged first count => some [0x41, first, count]
  | .markReady => some [0x42]
  | .readBank bank first count => some [0x43, bank, first, count]
  | .proposeSwap round => some (0x44 :: Machine.le 2 round.toNat)
  | .ringStatus ring => some [0x50, ring]
  | .readRing ring k => some [0x51, ring, k]
  | .releaseRing ring n => some (0x52 :: ring :: Machine.le 2 n.toNat)
  | .hold => some [0x60]
  | .release => some [0x61]
  | .readNotices => some [0x70]
  | .ackNotices causes => some (0x71 :: Machine.le 2 causes.toNat)
  | .setNoticeMask causes => some (0x72 :: Machine.le 2 causes.toNat)
  | .softReset => some [0x7F]
  | .unknownCommand octet => some [octet]
  | .reset => none
  | .adjustedStep _ _ => none
  | .listenTimerExpiry => none
  | .roundEnd _ => none
  | .ownSendInstant => none
  | .collision => none
  | .frameSentWhole => none
  | .frameComplete _ => none
  | .frameFailed => none
  | .edgeAccepted _ _ => none
  | .holdLineAccepted => none
  | .fire => none
  | .pulseEnd _ => none
  | .expiry _ => none
  | .cyclicFire => none
  | .cyclicPulseEnd _ => none
  | .transactionStart => none
  | .transactionEnd => none
  | .answerReady _ => none
  | .referencePeriod _ _ => none
  | .receptionStart => none
  | .lineIdle => none
  | .resetAsserted => none
  | .portOctet _ => none

end Sys2Proof

namespace Sys2Proof.Machine

/-! ### Invariants -/

/-- The journal memory is in its canonical form and lists addresses of its 2,048 places of 16 octets only (R75). -/
def State.memoryCanonical (s : State) : Prop :=
  Memory.wf s.journal.mem ∧ ∀ c ∈ s.journal.mem, c.1 < 2048 * 16

/-- At most 32 items, of which at most 28 are MARK, ARM or CANCEL items (R42). -/
def State.queueBounded (s : State) : Prop :=
  s.roundCtl.queue.length ≤ 32 ∧ (s.roundCtl.queue.filter fun i => !i.isReport).length ≤ 28

/-- The loaded profile has passed the checks of R188, and from START on the blocks hold what it gives (R187, R189). -/
def State.profileKept (s : State) : Prop :=
  (∀ os, s.port.loaded = some os → os.length = 216 ∧ profileError os = none) ∧
    (s.port.started = true → ∃ os, s.port.loaded = some os ∧ s.profile = profileOf os)

/-- The count lies between 0 and the length, the read index below the length, and the low-room flag is set exactly while
free places are at or below the threshold (R76, R82, R85). -/
def Ring.good (r : Ring) : Prop :=
  4 ≤ r.defn.length ∧ r.defn.base + r.defn.length ≤ 2048 ∧ r.defn.low < r.defn.length ∧ r.readIdx < r.defn.length ∧
    r.count ≤ r.defn.length ∧ (r.lowRoom = true ↔ r.free ≤ r.defn.low)

/-- Every ring is good. -/
def State.ringsGood (s : State) : Prop := ∀ k r, ringAt s k = some r → r.good

/-- The notice sets and the mask name the fifteen causes only (R192). -/
def State.noticesNamed (s : State) : Prop :=
  s.notice.pending.getLsbD 15 = false ∧ s.notice.raised.getLsbD 15 = false ∧
    s.notice.reported.getLsbD 15 = false ∧ s.notice.mask.getLsbD 15 = false

/-- RELEASED goes with an empty reason set, and release pending is set exactly while the unit is HELD and the set is empty
(R152, R153). -/
def HoldUnit.consistent (h : HoldUnit) : Prop :=
  (h.held = false → h.noReason = true) ∧ (h.releasePending = true ↔ h.held = true ∧ h.noReason = true)

/-- Outside SYNCED and HOLDOVER the SYNC reason stands and the unit is HELD (R148). -/
def State.untrustedHeld (s : State) : Prop :=
  trusted s.timebase.sync = false → s.hold.held = true ∧ s.hold.reasonSync = true

/-- The held indications of the action unit and the cycle unit and the forced indication of every DRIVE channel follow
the hold unit (R113, R130, R146); a channel that is not DRIVE keeps the forced indication of the reset (R141). -/
def State.heldAgrees (s : State) : Prop :=
  s.action.held = s.hold.held ∧ s.cycle.held = s.hold.held ∧
    ∀ c ch, s.channels[c]? = some ch →
      ((driveCfg s c).isSome = true → ch.drive.forced = s.hold.held) ∧
        (driveCfg s c = none → ch.drive.forced = true)

/-- Every DRIVE channel whose forced indication is set stands at its safe level (R146). -/
def State.forcedSafe (s : State) : Prop :=
  ∀ c cfg ch, driveCfg s c = some cfg → s.channels[c]? = some ch → ch.drive.forced = true →
    ch.drive.level = some cfg.safe

/-- While HELD no entry is SCHEDULED or ACTIVE and no cyclic pulse end is pending (R113, R130, R157). -/
def State.heldQuiet (s : State) : Prop :=
  (s.action.held = true → ∀ i e, entryAt s i = some e → e.isWaiting = true) ∧
    (s.cycle.held = true → s.cycle.pulseEnds = [])

/-- No two non-FREE entries share owner and tag (R93). -/
def State.ownersDistinct (s : State) : Prop :=
  ∀ i j e f, entryAt s i = some e → entryAt s j = some f → e.owner = f.owner → e.tag = f.tag → i = j

/-- No two outbound records carry the same tag (R164). -/
def State.outTagsDistinct (s : State) : Prop :=
  ∀ i j r q, recordOf s i = some r → recordOf s j = some q → r.tag = q.tag → i = j

/-- Records stand only in SYNCED and HOLDOVER (R164). -/
def State.recordsTrusted (s : State) : Prop := ∀ i r, recordOf s i = some r → trusted s.timebase.sync = true

/-- A pending swap round lies after the current round, and none is pending in OFF, LISTEN and COLDSTART (R132, R133,
R139). -/
def State.swapAhead (s : State) : Prop :=
  ∀ p, s.cycle.pendingSwap = some p → numBefore s.timebase.round p = true ∧ takesSwapField s.timebase.sync = true

/-- The listen timer is present exactly in LISTEN, and the started flag is set exactly outside OFF (R17, R189). -/
def State.timerInListen (s : State) : Prop :=
  (s.timebase.listenTimer.isSome = true ↔ s.timebase.sync = .listen) ∧
    (s.port.started = true ↔ s.timebase.sync ≠ .off)

/-- The counts of the state machine stay in their ranges (R17). -/
def State.countsInRange (s : State) : Prop :=
  s.profile.holdover ≤ 255 ∧ s.timebase.coldRounds < 8 ∧ s.timebase.joinCount ≤ 2 ∧ s.timebase.thin < 2 ∧
    s.timebase.unheard < 4 ∧ s.timebase.holdRounds ≤ 255

/-! ### States and operands that statements start from -/

/-- The command octet of a transaction is being clocked in, and the station is not held in reset. -/
def State.portOpen (s : State) : Prop := s.inReset = false ∧ s.port.transaction = .command

/-- The state with the port in ANSWER: the answer is ready after some reference periods, and a wait octet stands on SDO
(R181). -/
def State.answering (s : State) (octets periods : Nat) (code : Octet) (data : List Octet) : State :=
  { s with port :=
      { s.port with
        transaction := .answer (s.timebase.stepNo + periods) false (code :: data), octetCount := octets
        sdo := some 0xFF, timeDue := false } }

/-- A READ_TIME has been taken in this step, and its values are to be captured as the step ends (R15). -/
def State.capturing (s : State) : State := { s with port := { s.port with timeDue := true } }

/-- Nothing is due in this step that has not been taken. -/
def State.settledStep (s : State) : Prop := drainDue s = s

/-- No event that brings the drive lines a request, the force or the release is due in this step. -/
def State.drivesQuiet (s : State) : Prop :=
  let due (x : NT) : Prop := reached s.timebase.nt x = true
  s.hold.lineDue = false ∧ roundEndDue s = false ∧
    (∀ i e, entryAt s i = some e → (∀ d, e.state = .scheduled d → ¬ due d) ∧
      ∀ l w ends since c, e.effect = .pulse l w → e.state = .active ends since c → since < s.timebase.stepNo →
        ¬ due ends) ∧
    (∀ d ∈ s.cycle.fireList, ¬ due d.instant) ∧ ∀ e ∈ s.cycle.pulseEnds, e.since < s.timebase.stepNo → ¬ due e.instant

/-- Commands executed one after another. -/
def execAll (cs : List Instr) (s : State) : Host.Outcome State Fault Refusal :=
  cs.foldl (fun r c =>
    match r with
    | .next t => exec c t
    | .fault f => .fault f
    | .refused f => .refused f) (.next s)

/-- The state after octets have completed on SDI, one PORT_OCTET after another. -/
def clockOctets (os : List Octet) (s : State) : Host.Outcome State Fault Refusal := execAll (os.map .portOctet) s

/-- CYCLIC_PULSE_END at these places, one after another from s, takes the oldest due pulse end each time. -/
def State.oldestFirst (s : State) (places : List Nat) : Prop :=
  ∀ (n place : Nat) (t : State), places[n]? = some place →
    execAll ((places.take n).map .cyclicPulseEnd) s = .next t →
    ∀ (j : Nat) (e : CyclicEnd), j < place → t.cycle.pulseEnds[j]? = some e →
      ¬ (e.since < t.timebase.stepNo ∧ reached t.timebase.nt e.instant = true)

/-- The octets from place i on give a value that may be absent: a presence octet, then the value in k octets, or zeros
(R186). -/
def optionalAt (d : List Octet) (i k : Nat) (v : Option Nat) : Prop :=
  match v with
  | none => octetAt d i = 0 ∧ fieldAt d (i + 1) k = 0
  | some n => octetAt d i = 1 ∧ fieldAt d (i + 1) k = n

/-- The reception r is under way, or the own send instant of this step has cut it short (R46, R47). -/
def State.receives (s : State) (r : Reception) : Prop :=
  s.roundCtl.receiver = .receiving r ∨ s.roundCtl.receiver = .cutShort r

/-- Peer k is the one whose expected arrival is nearest to the observed instant of a reception; of two equally near, the lower
number (R52). -/
def State.nearestTo (s : State) (r : Reception) (k : Nat) : Prop :=
  let distance (j : Nat) : Nat := arrivalDistance s.profile r.rs r.observed j
  (k < s.profile.stations ∧ k < 16 ∧ k ≠ s.profile.station) ∧
    ∀ j, j < s.profile.stations → j < 16 → j ≠ s.profile.station →
      (j < k → distance k < distance j) ∧ (k ≤ j → distance k ≤ distance j)

/-- From s to t every channel of the set whose sample of this step began a run has that run start at the NT of t, and the
channels are otherwise as they were (R65). -/
def State.restamped (s : State) (channels : Octet) (t : State) : Prop :=
  ∀ (c : Nat) (ch : Channel), s.channels[c]? = some ch →
    let begun : Prop := (ch.filter.run ≠ 0 ∨ ch.filter.edgeDue = true) ∧ ch.filter.runStep = s.timebase.stepNo
    (channels.getLsbD c = true → begun →
      t.channels[c]? = some { ch with filter := { ch.filter with runStart := t.timebase.nt } }) ∧
    (¬ (channels.getLsbD c = true ∧ begun) → t.channels[c]? = some ch)

/-- The item's fields lie in the ranges that their octets can carry. -/
def Item.encodable : Item → Prop
  | .mark m => m.station < 256 ∧ m.channel < 256
  | .arm target channel _ f => target < 256 ∧ channel < 256 ∧ f.effect < 4 ∧ f.repeats < 256
  | .cancel target _ => target < 256
  | .report r => r.requester < 256

/-- The frame's fields lie in the ranges that their octets can carry, and it keeps the rules of R40 and R41. -/
def Frame.encodable (f : Frame) : Prop :=
  f.sender < 256 ∧ f.items.length ≤ 64 ∧ (f.startup = true → f.items = []) ∧ ∀ i ∈ f.items, i.encodable

end Sys2Proof.Machine
end

