-- ==== Sys2Proof/Certificates/Slice0/Obligations.lean ====
section
/-! DEFINITION. The statements about the station. -/

section
open Sys2Proof Sys2Proof.Machine

/-! ### The queue, the resets and the port -/

/-- A step runs the front command on the state with the rest of the queue, and an empty queue idles (the model's choice,
assumption 1). -/
def Obligations.StepRunsFrontCommand : Prop :=
  (∀ (c : Instr) (rest : List Instr) (s : State),
    step { s with pending := c :: rest } = exec c { s with pending := rest }) ∧
  ∀ s : State, step { s with pending := [] } = .next { s with pending := [] }

/-- Every command answers a next state and leaves the queue as it stands. -/
def Obligations.CommandsAnswerNextAndKeepQueue : Prop :=
  ∀ (c : Instr) (s : State), ∃ t, exec c s = .next t ∧ t.pending = s.pending

/-- RESET: every block holds its values after reset (R197 with R16, R17, R53, R60, R73, R91, R95, R120, R141, R147,
R164, R192); the pins are outside the blocks. RESET_ASSERTED: the station is held in reset, with the drive lines
undriven, BTXEN disabled and NOTICE_N released; while it is held the port ignores its lines and a reference period
changes the pins only (R197). -/
def Obligations.ResetLeavesResetValues : Prop :=
  (∀ s : State, ∃ t, exec .reset s = .next t ∧ t.pins = s.pins ∧ t.inReset = false ∧
    (t.timebase.sync = .off ∧ t.timebase.nt = 0 ∧ t.timebase.round = 0 ∧ t.timebase.rs = 0 ∧
      t.timebase.devList = [] ∧ t.timebase.corr = 0 ∧ t.timebase.corrCount = 0 ∧ t.timebase.corrApplied = false ∧
      t.timebase.refs = 0 ∧ t.timebase.refsNaming = 0 ∧ t.timebase.slew = 0 ∧ t.timebase.listenTimer = none ∧
      t.timebase.coldRounds = 0 ∧ t.timebase.coldAttempts = 0 ∧ t.timebase.joinCount = 0 ∧ t.timebase.thin = 0 ∧
      t.timebase.unheard = 0 ∧ t.timebase.holdRounds = 0) ∧
    (t.btxEnabled = false ∧ t.roundCtl.receiver = .notReceiving ∧ t.roundCtl.queue = [] ∧ t.roundCtl.heardNow = 0 ∧
      t.roundCtl.heardPrev = 0 ∧ (∀ p ∈ t.roundCtl.peers.toList, p = Peer.reset) ∧ t.roundCtl.collisions = 0 ∧
      t.roundCtl.duplicates = 0 ∧ t.roundCtl.purged = 0 ∧ t.roundCtl.reportDrops = 0) ∧
    (∀ c, channelCfg t c = .unused) ∧
    (∀ c ∈ t.channels.toList, c.filter.accepted = none ∧ c.filter.run = 0 ∧ c.prescale = 0 ∧ c.markSeq = 0 ∧
      c.publishLoss = 0 ∧ c.lastMark = none ∧ c.drive.level = none ∧ c.drive.forced = true ∧
      c.drive.lastChange = none ∧ c.drive.changes = 0) ∧
    (∀ k, ringAt t k = none) ∧ t.journal.discarded = 0 ∧
    (∀ i, entryAt t i = none) ∧ t.action.armSeq = 0 ∧ t.action.localTag = 0 ∧ t.action.held = true ∧
    (filledPlaces t.cycle.bankA = 0 ∧ filledPlaces t.cycle.bankB = 0 ∧ t.cycle.running = .a ∧ t.cycle.staged = .empty ∧
      t.cycle.pendingSwap = none ∧ t.cycle.generation = 0 ∧ t.cycle.skip = false ∧ t.cycle.fireList = [] ∧
      t.cycle.pulseEnds = [] ∧ t.cycle.held = true) ∧
    (t.hold.held = true ∧ t.hold.reasonSync = true ∧ t.hold.reasonLine = false ∧ t.hold.reasonCommand = false ∧
      t.hold.releasePending = false ∧ t.hold.lineActive = false ∧ t.hold.lineRun = 0) ∧
    (∀ i, recordOf t i = none) ∧ t.request.tagCounter = 0 ∧ t.request.unsolicited = 0 ∧
    (t.port.loaded = none ∧ t.port.started = false ∧ t.port.previousShort = false ∧ t.port.resetDue = false ∧
      t.port.timeDue = false ∧ t.port.sdo = none ∧ t.port.transaction = if s.pins.selLow then .awaitHigh else .idle) ∧
    (t.notice.pending = 0 ∧ t.notice.raised = 0 ∧ t.notice.reported = 0 ∧ t.notice.mask = 0 ∧ t.noticeLow = false)) ∧
  ∀ s : State, ∃ t, exec .resetAsserted s = .next t ∧ t.inReset = true ∧ t.pins = s.pins ∧
    (∀ c ∈ t.channels.toList, c.drive.level = none) ∧ t.btxEnabled = false ∧ t.noticeLow = false ∧
    t.port.sdo = none ∧
    (∀ o, exec (.portOctet o) t = .next t) ∧
    (∀ c os, c.wire = some os → exec c t = .next t) ∧
    (∀ u, exec .transactionStart t = .next u → u.port = t.port) ∧
    (∀ u, exec .transactionEnd t = .next u → u.port = t.port) ∧
    ∀ l h, exec (.referencePeriod l h) t = .next { t with pins := { t.pins with lines := l, hold := h } }

/-- TRANSACTION_START: SEL_N falls with the port IDLE; the lead octet on SDO is SHORT when the previous-short flag is
set and DONE when it is clear (R181, R182). TRANSACTION_END with no SOFT_RESET due: the port returns to IDLE with SDO
undriven and changes nothing else; the previous-short flag is set when the command was not taken and cleared when it was
(R182, R183). SOFT_RESET is recorded as due and answered DONE, and nothing else changes; the rise of SEL_N that ends its
transaction takes the reset (R198). -/
def Obligations.TransactionsBeginAndEnd : Prop :=
  (∀ s : State, s.inReset = false → s.pins.selLow = false →
    exec .transactionStart s =
      .next
        { s with
          pins := { s.pins with selLow := true }
          port :=
            { s.port with
              transaction := .command, octetCount := 0
              sdo := some (if s.port.previousShort then 0x25 else 0x01) } }) ∧
  (∀ s : State, s.portOpen →
    exec .softReset s = .next ({ s with port := { s.port with resetDue := true } }.answering 1 8 0x01 [])) ∧
  (∀ s : State, s.inReset = false → s.pins.selLow = true → s.port.resetDue = true →
    exec .transactionEnd s = exec .reset { s with pins := { s.pins with selLow := false } }) ∧
  ∀ s : State, s.inReset = false → s.pins.selLow = true → s.port.resetDue = false →
    ∃ short, exec .transactionEnd s =
        .next
          { s with
            pins := { s.pins with selLow := false }
            port := { s.port with
              transaction := .idle, octetCount := 0, sdo := none, previousShort := short, timeDue := false } } ∧
      (s.port.transaction = .command → short = true) ∧
      (∀ cmd got, s.port.transaction = .operands cmd got → short = true) ∧
      (∀ at' ready left, s.port.transaction = .answer at' ready left → short = false) ∧
      (s.port.transaction = .trailing → short = false) ∧
      (s.port.transaction = .awaitHigh → short = s.port.previousShort)

/-- The octets of a command row, clocked in one PORT_OCTET after another, are taken as the row (R181, R184, R186);
that a row stands for the step with all its octets is the model's choice (assumption 5). -/
def Obligations.WireAndRowAgree : Prop :=
  ∀ (c : Instr) (os : List Octet) (s : State), c.wire = some os → c.wellFormed = true → s.portOpen →
    clockOctets os s = exec c s

/-- PORT_OCTET in OPERANDS keeps the octet in the port, with 0xFF on SDO, until the operands are complete: no block is
reached. In ANSWER wait octets stand on SDO until the answer is ready, then the result and the data in order, then
0x00 for each further octet, and octets in are ignored (R181, R183, R184). The bits of an octet go most significant
first: octets sampled bit by bit at the rising edges of SCK are taken as the octets, fewer than eight samples change
nothing, and SDO shows its octet's bits in the same order, none while it is undriven (R180). -/
def Obligations.PortOctetsMoveTransaction : Prop :=
  (∀ (s : State) (o : Octet), s.inReset = false → ∃ t, exec (.portOctet o) s = .next t ∧
    (∀ cmd got, s.port.transaction = .operands cmd got → got.length + 1 < cmd.operandCount →
      t = { s with port :=
              { s.port with
                transaction := .operands cmd (got ++ [o]), octetCount := got.length + 2, sdo := some 0xFF } }) ∧
    (∀ at' left, s.port.transaction = .answer at' false left →
      t = { s with port := { s.port with octetCount := s.port.octetCount + 1, sdo := some 0xFF } }) ∧
    (∀ at' x rest, s.port.transaction = .answer at' true (x :: rest) →
      t = { s with port :=
              { s.port with
                transaction := .answer at' true rest, octetCount := s.port.octetCount + 1, sdo := some x } }) ∧
    (∀ at', s.port.transaction = .answer at' true [] →
      t = { s with port :=
              { s.port with transaction := .trailing, octetCount := s.port.octetCount + 1, sdo := some 0 } }) ∧
    (s.port.transaction = .trailing →
      t = { s with port := { s.port with octetCount := s.port.octetCount + 1, sdo := some 0 } }) ∧
    (s.port.transaction = .idle ∨ s.port.transaction = .awaitHigh → t = s)) ∧
  (∀ (o : Octet) (k : Nat), k < 8 → (portBits o)[k]? = some (o.getLsbD (7 - k))) ∧
  (∀ (os : List Octet) (s : State), ∃ t, clockOctets os s = .next t ∧
    takeRises [] (os.flatMap portBits) s = (t, [])) ∧
  (∀ (samples : List Bool) (s : State), samples.length < 8 → takeRises [] samples s = (s, samples)) ∧
  ∀ (s : State) (k : Nat), k < 8 →
    (s.port.sdo = none → s.sdoBit k = none) ∧ ∀ o, s.port.sdo = some o → s.sdoBit k = (portBits o)[k]?

/-- ANSWER_READY, once the step of readiness is reached: the octet that comes next on SDO is the result octet, unless
its first bit has been driven already; nothing else changes (R181). UNKNOWN_COMMAND is handed to no block, and is
answered without data (R184). -/
def Obligations.AnswersBecomeReady : Prop :=
  (∀ (s : State) (at' : Nat) (code : Octet) (data : List Octet),
    s.port.transaction = .answer at' false (code :: data) → at' ≤ s.timebase.stepNo →
    exec (.answerReady true) s =
        .next { s with port := { s.port with transaction := .answer at' true (code :: data) } } ∧
      exec (.answerReady false) s =
        .next { s with port := { s.port with transaction := .answer at' true data, sdo := some code } }) ∧
  ∀ (s : State) (o : Octet), s.portOpen → (Instr.unknownCommand o).wellFormed = true →
    exec (.unknownCommand o) s = .next (s.answering 1 8 0x24 [])

/-! ### Profile, START and the readings -/

/-- LOAD_PROFILE: refused outside OFF; judged in OFF by the checks of R188, and kept when it passes (R187); otherwise
PROFILE_ERROR carries the code and the field offset of the first check that fails. That check is the first in the order of
R188, and the offset is the lowest that it reports: for check 1 the first field out of range, for checks 2 to 5 the one
field, for checks 6 and 7 the base, and for check 8 the source, of the first ring that fails, and for check 9 the ring field
of the first channel that fails (R188). -/
def Obligations.LoadProfileJudged : Prop :=
  (∀ (s : State) (os : List Octet), s.portOpen → os.length = 216 →
    (s.timebase.sync ≠ .off → exec (.loadProfile os) s = .next (s.answering 217 400 0x10 [])) ∧
    (s.timebase.sync = .off → profileError os = none →
      exec (.loadProfile os) s =
        .next ({ s with port := { s.port with loaded := some os } }.answering 217 400 0x01 [])) ∧
    ∀ code offset, s.timebase.sync = .off → profileError os = some (code, offset) →
      exec (.loadProfile os) s = .next (s.answering 217 400 0x23 (code :: le 2 offset))) ∧
  ∀ os : List Octet,
    let octet (i : Nat) : Nat := (octetAt os i).toNat
    let field (i k : Nat) : Nat := fieldAt os i k
    let role (c : Nat) : Nat := octet (56 + 8 * c)
    let ring (c : Nat) : Nat := octet (62 + 8 * c)
    let defined (k : Nat) : Prop := k < 8 ∧ octet (120 + 12 * k) = 1
    let source (k : Nat) : Nat := octet (121 + 12 * k)
    let base (k : Nat) : Nat := field (122 + 12 * k) 2
    let length (k : Nat) : Nat := field (124 + 12 * k) 2
    let bit : Nat := if octet 16 = 0 then 400 else if octet 16 = 1 then 200 else 100
    let outOfRange (o : Nat) : Prop :=
      (o = 3 ∧ ¬ (2 ≤ octet 3 ∧ octet 3 ≤ 16)) ∨
      (o = 4 ∧ ¬ (50000 ≤ field 4 4 ∧ field 4 4 ≤ 50000000 ∧ field 4 4 % 1000 = 0)) ∨
      (o = 8 ∧ field 8 2 < 1000) ∨ (o = 10 ∧ ¬ (50 ≤ field 10 2 ∧ field 10 2 ≤ 32767)) ∨ (o = 12 ∧ field 12 2 < 100) ∨
      (o = 14 ∧ ¬ (1 ≤ octet 14 ∧ octet 14 ≤ 15)) ∨ (o = 16 ∧ 2 < octet 16) ∨
      (o = 18 ∧ ¬ (32 ≤ field 18 2 ∧ field 18 2 ≤ 512 ∧ field 18 2 % 8 = 0)) ∨
      (o = 20 ∧ ¬ (2 ≤ octet 20 ∧ octet 20 ≤ 64)) ∨ (o = 21 ∧ ¬ (octet 21 % 4 ≤ 2 ∧ octet 21 < 16)) ∨
      (o = 22 ∧ 32768 ≤ field 22 2) ∨
      (∃ c, c < 8 ∧
        ((o = 56 + 8 * c ∧ 2 < role c) ∨
        (role c = 1 ∧
          ((o = 57 + 8 * c ∧ ¬ (1 ≤ octet o ∧ octet o ≤ 15)) ∨ (o = 58 + 8 * c ∧ 7 < octet o) ∨
          (o = 59 + 8 * c ∧ 2 < octet o) ∨
          (o = 60 + 8 * c ∧ octet o ≠ 1 ∧ octet o ≠ 2 ∧ octet o ≠ 4 ∧ octet o ≠ 8) ∨
          (o = 61 + 8 * c ∧ 1 < octet o) ∨ (o = 62 + 8 * c ∧ 7 < octet o ∧ octet o ≠ 255))) ∨
        (role c = 2 ∧ (o = 57 + 8 * c ∨ o = 58 + 8 * c) ∧ 1 < octet o))) ∨
      ∃ k, k < 8 ∧
        ((o = 120 + 12 * k ∧ 1 < octet o) ∨
        (defined k ∧
          ((o = 121 + 12 * k ∧ 2 < source k) ∨ (o = 122 + 12 * k ∧ 2047 < base k) ∨
          (o = 124 + 12 * k ∧ ¬ (4 ≤ length k ∧ length k ≤ 2048)) ∨ (o = 126 + 12 * k ∧ length k ≤ field o 2) ∨
          (o = 128 + 12 * k ∧ source k = 0 ∧ 7 < octet o))))
    let fails (check o : Nat) : Prop :=
      (check = 1 ∧ outOfRange o) ∨ (check = 2 ∧ o = 4 ∧ field 4 4 % octet 3 ≠ 0) ∨
      (check = 3 ∧ o = 2 ∧ octet 3 ≤ octet 2) ∨ (check = 4 ∧ o = 12 ∧ field 4 4 / 20 < field 12 2) ∨
      (check = 5 ∧ o = 18 ∧
        field 4 4 / octet 3 < field 8 2 + (24 + field 18 2 + 4) * 10 * bit + 2 * field 10 2 + field 12 2 + 1000) ∨
      (check = 6 ∧ ∃ k, defined k ∧ o = 122 + 12 * k ∧ 2048 < base k + length k) ∨
      (check = 7 ∧ ∃ j k, j < k ∧ defined j ∧ defined k ∧ o = 122 + 12 * k ∧ base k < base j + length j ∧
        base j < base k + length k) ∨
      (check = 8 ∧ ∃ j k, j < k ∧ defined j ∧ defined k ∧ o = 121 + 12 * k ∧ source j = 2 ∧ source k = 2) ∨
      (check = 9 ∧ ∃ c, c < 8 ∧ o = 62 + 8 * c ∧ role c = 1 ∧ ring c ≠ 255 ∧
        ¬ (defined (ring c) ∧ source (ring c) = 0 ∧ octet (128 + 12 * ring c) = c))
    ∀ (code : Octet) (o : Nat), profileError os = some (code, o) ↔
      ∃ check, code = octetOf check ∧ fails check o ∧ (∀ p, p < o → ¬ fails check p) ∧
        ∀ c p, c < check → ¬ fails c p

/-- A profile passes the checks of R188 exactly when every judged field lies in its range and encoding, P is a
multiple of S, the own station number lies below S, C and the slot fit, the defined rings lie inside the memory and
apart, one at most takes reports, and the ring that a CAPTURE channel names is a LOCAL_CHANNEL ring of that channel.
The profile that the blocks take then has each of its quantities and settings from its octets, field by field (10.7.6),
in the ranges and bounds of R188. -/
def Obligations.AcceptedProfileInRanges : Prop :=
  ∀ os : List Octet,
    let octet (i : Nat) : Nat := (octetAt os i).toNat
    let field (i k : Nat) : Nat := fieldAt os i k
    let role (c : Nat) : Nat := octet (56 + 8 * c)
    let defined (k : Nat) : Prop := k < 8 ∧ octet (120 + 12 * k) = 1
    let source (k : Nat) : Nat := octet (121 + 12 * k)
    let base (k : Nat) : Nat := field (122 + 12 * k) 2
    let length (k : Nat) : Nat := field (124 + 12 * k) 2
    let bit : Nat := if octet 16 = 0 then 400 else if octet 16 = 1 then 200 else 100
    (profileError os = none ↔
      (2 ≤ octet 3 ∧ octet 3 ≤ 16) ∧ (50000 ≤ field 4 4 ∧ field 4 4 ≤ 50000000 ∧ field 4 4 % 1000 = 0) ∧
      1000 ≤ field 8 2 ∧ (50 ≤ field 10 2 ∧ field 10 2 ≤ 32767) ∧ 100 ≤ field 12 2 ∧
      (1 ≤ octet 14 ∧ octet 14 ≤ 15) ∧ octet 16 ≤ 2 ∧
      (32 ≤ field 18 2 ∧ field 18 2 ≤ 512 ∧ field 18 2 % 8 = 0) ∧ (2 ≤ octet 20 ∧ octet 20 ≤ 64) ∧
      (octet 21 % 4 ≤ 2 ∧ octet 21 < 16) ∧ field 22 2 < 32768 ∧
      (∀ c, c < 8 → role c ≤ 2 ∧
        (role c = 1 → (1 ≤ octet (57 + 8 * c) ∧ octet (57 + 8 * c) ≤ 15) ∧ octet (58 + 8 * c) ≤ 7 ∧
          octet (59 + 8 * c) ≤ 2 ∧
          (octet (60 + 8 * c) = 1 ∨ octet (60 + 8 * c) = 2 ∨ octet (60 + 8 * c) = 4 ∨ octet (60 + 8 * c) = 8) ∧
          octet (61 + 8 * c) ≤ 1 ∧ (octet (62 + 8 * c) ≤ 7 ∨ octet (62 + 8 * c) = 255)) ∧
        (role c = 2 → octet (57 + 8 * c) ≤ 1 ∧ octet (58 + 8 * c) ≤ 1)) ∧
      (∀ k, k < 8 → octet (120 + 12 * k) ≤ 1) ∧
      (∀ k, defined k → source k ≤ 2 ∧ base k ≤ 2047 ∧ (4 ≤ length k ∧ length k ≤ 2048) ∧
        field (126 + 12 * k) 2 < length k ∧ (source k = 0 → octet (128 + 12 * k) ≤ 7)) ∧
      field 4 4 % octet 3 = 0 ∧ octet 2 < octet 3 ∧ field 12 2 ≤ field 4 4 / 20 ∧
      field 8 2 + (24 + field 18 2 + 4) * 10 * bit + 2 * field 10 2 + field 12 2 + 1000 ≤ field 4 4 / octet 3 ∧
      (∀ k, defined k → base k + length k ≤ 2048) ∧
      (∀ j k, defined j → defined k → j < k → base j + length j ≤ base k ∨ base k + length k ≤ base j) ∧
      (∀ j k, defined j → defined k → source j = 2 → source k = 2 → j = k) ∧
      ∀ c, c < 8 → role c = 1 → octet (62 + 8 * c) ≠ 255 →
        defined (octet (62 + 8 * c)) ∧ source (octet (62 + 8 * c)) = 0 ∧
          octet (128 + 12 * octet (62 + 8 * c)) = c) ∧
    (profileError os = none →
      let p := profileOf os
      (p.clusterTag = word16At os 0 ∧ p.station = octet 2 ∧ p.stations = octet 3 ∧ p.period = field 4 4 ∧
        p.sendOffset = field 8 2 ∧ p.window = field 10 2 ∧ p.corrLimit = field 12 2 ∧ p.minRefs = octet 14 ∧
        p.holdover = octet 15 ∧ 25 * p.bitPeriods = bit ∧ p.bodyBudget = field 18 2 ∧ p.replyDeadline = octet 20 ∧
        p.noticeMask = word16At os 22) ∧
      (∀ k, k < 16 → p.lineDelays[k]? = some (field (24 + 2 * k) 2)) ∧
      (∀ k, k < 8 → (¬ defined k → p.rings[k]? = some none) ∧
        (defined k → ∃ d : RingDef, p.rings[k]? = some (some d) ∧ d.base = base k ∧ d.length = length k ∧
          d.low = field (126 + 12 * k) 2 ∧ (source k = 0 → d.source = .localChannel (octet (128 + 12 * k))) ∧
          (source k = 1 → d.source = .peerMarks (word16At os (130 + 12 * k)) (octetAt os (128 + 12 * k))) ∧
          (source k = 2 → d.source = .reports))) ∧
      (2 ≤ p.stations ∧ p.stations ≤ 16) ∧ (50000 ≤ p.period ∧ p.period ≤ 50000000 ∧ p.period % 1000 = 0) ∧
      (1000 ≤ p.sendOffset ∧ p.sendOffset ≤ 65535) ∧ (50 ≤ p.window ∧ p.window ≤ 32767) ∧
      (100 ≤ p.corrLimit ∧ p.corrLimit ≤ 65535) ∧ (1 ≤ p.minRefs ∧ p.minRefs ≤ 15) ∧
      (p.bitPeriods = 4 ∨ p.bitPeriods = 8 ∨ p.bitPeriods = 16) ∧
      (32 ≤ p.bodyBudget ∧ p.bodyBudget ≤ 512 ∧ p.bodyBudget % 8 = 0) ∧
      (2 ≤ p.replyDeadline ∧ p.replyDeadline ≤ 64) ∧ p.noticeMask.getLsbD 15 = false ∧
      p.period % p.stations = 0 ∧ p.station < p.stations ∧ p.corrLimit ≤ p.period / 20 ∧
      p.sendOffset + (24 + p.bodyBudget + 4) * 10 * (25 * p.bitPeriods) + 2 * p.window + p.corrLimit + 1000 ≤
        p.period / p.stations ∧
      (∀ (k : Nat) (d : RingDef), p.rings[k]? = some (some d) →
        d.base + d.length ≤ 2048 ∧ 4 ≤ d.length ∧ d.low < d.length) ∧
      (∀ (j k : Nat) (d e : RingDef), j ≠ k → p.rings[j]? = some (some d) → p.rings[k]? = some (some e) →
        (d.base + d.length ≤ e.base ∨ e.base + e.length ≤ d.base) ∧ ¬ (d.source = .reports ∧ e.source = .reports)) ∧
      (∀ (c : Nat) (cfg : CaptureCfg) (k : Nat), p.channels[c]? = some (.capture cfg) → cfg.ring = some k →
        ∃ d : RingDef, p.rings[k]? = some (some d) ∧ d.source = .localChannel c) ∧
      (∀ c, c < 8 →
        (role c = 0 → p.channels[c]? = some .unused) ∧
        (role c = 1 → ∃ cfg : CaptureCfg, p.channels[c]? = some (.capture cfg) ∧
          cfg.filterLen = octet (57 + 8 * c) ∧ cfg.sampleExp = octet (58 + 8 * c) ∧
          edgeSelOf (octetAt os (59 + 8 * c)) = some cfg.edgeSel ∧ cfg.prescaler = octet (60 + 8 * c) ∧
          (cfg.publish = true ↔ octet (61 + 8 * c) = 1) ∧
          cfg.ring = if octet (62 + 8 * c) = 255 then none else some (octet (62 + 8 * c))) ∧
        (role c = 2 → ∃ cfg : DriveCfg, p.channels[c]? = some (.drive cfg) ∧
          (cfg.rest = .high ↔ octet (57 + 8 * c) = 1) ∧ (cfg.safe = .high ↔ octet (58 + 8 * c) = 1) ∧
          cfg.permit = word16At os (60 + 8 * c))) ∧
      (p.holdLine = .notUsed ↔ octet 21 % 4 = 0) ∧ (p.holdLine = .activeHigh ↔ octet 21 % 4 = 1) ∧
      (p.holdLine = .activeLow ↔ octet 21 % 4 = 2) ∧ p.manual = (octetAt os 21).getLsbD 2 ∧
      p.holdOnHoldover = (octetAt os 21).getLsbD 3)

/-- START in OFF with a profile loaded hands it to every block and enters LISTEN; NT goes on, the drive lines stand at
their safe levels with no change counted, and every CAPTURE channel and the hold unit take their first sample in that
step (R18, R189, R63, R73, R141, R147, R149, R196; a sample of HOLD is taken as `HoldLineAccepted` says). Refused
otherwise, changing nothing. The hold unit is HELD before START (see `HoldKept`). -/
def Obligations.StartHandsProfile : Prop :=
  ∀ s : State, s.portOpen →
    (∀ os, s.timebase.sync = .off → s.port.loaded = some os → s.hold.held = true →
      let p := profileOf os
      ∃ t, exec .start s = .next t ∧ t.profile = p ∧ t.port.started = true ∧ t.port.loaded = some os ∧
        t.port.transaction = .answer (s.timebase.stepNo + 8) false [0x01] ∧
        t.timebase =
          { s.timebase with
            sync := .listen
            listenTimer := some (s.timebase.nt + BitVec.ofNat 48 (2 * p.period + p.station * (p.period / p.stations)))
            coldRounds := 0, joinCount := 0, thin := 0, unheard := 0, holdRounds := 0 } ∧
        t.roundCtl = { s.roundCtl with receiver := .waitIdle } ∧
        (∀ k, (ringAt t k).map Ring.defn = (p.rings[k]?).join) ∧
        (∀ k r, ringAt t k = some r → r.readIdx = 0 ∧ r.count = 0 ∧ r.lowRoom = false ∧ r.pendingLoss = 0 ∧
          r.totalLost = 0 ∧ r.lossReported = false) ∧
        t.notice.mask = p.noticeMask ∧ t.notice.pending = s.notice.pending ||| 1 ∧
        (t.hold.held = true ∧ t.hold.reasonSync = true ∧ t.hold.releasePending = false ∧
          t.hold.reasonCommand = (s.hold.reasonCommand || p.manual)) ∧
        t.hold =
          { (sampleHold { s with profile := p }).hold with
            reasonSync := true, releasePending := false, reasonCommand := t.hold.reasonCommand } ∧
        (∀ (c : Nat) (cfg : CaptureCfg) (ch : Channel), p.channels[c]? = some (.capture cfg) →
          s.channels[c]? = some ch →
          t.channels[c]? =
            some
              { ch with
                phase := 0
                filter := ch.filter.sample cfg.filterLen s.timebase.stepNo s.timebase.nt
                  (if s.pins.lines.getLsbD c then Level.high else .low) }) ∧
        (∀ (c : Nat) (d : DriveCfg) (ch ch' : Channel), p.channels[c]? = some (.drive d) → s.channels[c]? = some ch →
          t.channels[c]? = some ch' → ch'.drive.level = some d.safe ∧ ch'.drive.forced = ch.drive.forced ∧
            ch'.drive.lastChange = ch.drive.lastChange ∧ ch'.drive.changes = ch.drive.changes) ∧
        t.action = s.action ∧ t.cycle = s.cycle ∧ t.request = s.request ∧ t.pins = s.pins) ∧
    (s.timebase.sync = .off → s.port.loaded = none → exec .start s = .next (s.answering 1 8 0x10 [0x02])) ∧
    (s.timebase.sync ≠ .off → exec .start s = .next (s.answering 1 8 0x10 [0x01]))

/-- STATUS changes nothing but the transaction, and answers DONE with the 32 octets of 10.7.7 (R190, R36, R158).
READ_TIME changes nothing but the transaction, and answers DONE with the 24 octets of 10.7.9. Its values are those of its
step: they are taken as the command is taken, and again as the step ends, after everything that is due in it. A round
start or an adoption of the same step, which leaves the port alone, is therefore in them (R15; assumption 37, with the order
of assumption 3 for what is due). -/
def Obligations.StatusAndTimeReported : Prop :=
  let shows (s : State) (d : List Octet) : Prop := d.length = 24 ∧
    ntAt d 0 = s.timebase.nt ∧ word16At d 6 = s.timebase.round ∧ ntAt d 8 = s.timebase.rs ∧
    word32At d 14 = BitVec.ofInt 32 s.timebase.corr ∧ octetAt d 18 = octetOf s.timebase.corrCount ∧
    octetAt d 19 = flagOctet s.timebase.corrApplied ∧ word32At d 20 = BitVec.ofInt 32 s.timebase.slew
  (∀ s : State, s.portOpen → ∃ d, exec .status s = .next (s.answering 1 8 0x01 d) ∧ d.length = 32 ∧
    ((octetAt d 0).getLsbD 0 = s.port.loaded.isSome ∧ (octetAt d 0).getLsbD 1 = s.port.started) ∧
    octetAt d 1 = (match s.port.loaded with
      | none => 0xFF
      | some os => octetAt os 2) ∧
    octetAt d 2 = octetOf (syncCode s.timebase.sync) ∧ word16At d 3 = s.timebase.coldAttempts ∧
    octetAt d 5 = octetOf s.timebase.coldRounds ∧ octetAt d 6 = octetOf s.timebase.joinCount ∧
    octetAt d 7 = octetOf s.timebase.thin ∧ octetAt d 8 = octetOf s.timebase.unheard ∧
    octetAt d 9 = octetOf s.timebase.holdRounds ∧
    ntAt d 10 = (match s.timebase.sync, s.timebase.listenTimer with
      | .listen, some timer => timer - s.timebase.nt
      | _, _ => 0) ∧
    octetAt d 16 = octetOf s.timebase.refs ∧ octetAt d 17 = octetOf s.timebase.refsNaming ∧
    word32At d 18 = BitVec.ofInt 32 s.timebase.corr ∧ octetAt d 22 = octetOf s.timebase.corrCount ∧
    octetAt d 23 = flagOctet s.timebase.corrApplied ∧ octetAt d 24 = flagOctet s.hold.held ∧
    ((octetAt d 25).getLsbD 0 = s.hold.reasonSync ∧ (octetAt d 25).getLsbD 1 = s.hold.reasonLine ∧
      (octetAt d 25).getLsbD 2 = s.hold.reasonCommand) ∧
    octetAt d 26 = flagOctet s.hold.releasePending ∧ octetAt d 27 = flagOctet s.hold.lineActive ∧
    octetAt d 28 = (match s.port.loaded with
      | none => 0xFF
      | some os => flagOctet ((octetAt os 21).getLsbD 2)) ∧
    word16At d 29 = s.notice.pending ∧ octetAt d 31 = flagOctet s.noticeLow) ∧
  (∀ s : State, s.portOpen →
    ∃ d, exec .readTime s = .next (s.answering 1 8 0x01 d).capturing ∧ shows s d) ∧
  (∀ (s : State) (at' : Nat) (old : List Octet), s.port.timeDue = true → s.port.transaction = .answer at' false old →
    s.timebase.stepNo < at' →
    let t := drainDue s
    ∃ d, t.port = { s.port with timeDue := false, transaction := .answer at' false (0x01 :: d) } ∧ shows t d) ∧
  ∀ (s u : State) (order : RoundOrder) (f : ReceivedFrame),
    exec (.roundEnd order) s = .next u ∨ exec .listenTimerExpiry s = .next u ∨ exec (.frameComplete f) s = .next u ∨
      exec .frameFailed s = .next u → u.port = s.port

/-- The other readings answer DONE with the values of their owners, where their operand names something, and change
nothing but the transaction; an operand that names nothing is answered INVALID or NOT_FOUND, and before START the ring
commands are refused (R58, R74, R87, R90, R119, R140, R179, R191). The octets of each are spelled in `ReadingsSpelled`
and `EntriesAndRecordsSpelled`. A drive channel is shown as it stood at the end of the step before while what is still
due in the step would change it, and as it stands otherwise. What is due would change it exactly when all of it, taken as
`DueEventsTaken` says (assumption 3), leaves another level, change time or change count, or releases a line that is forced now;
nothing would when no event that brings the drive lines anything is due (R145; assumption 36). -/
def Obligations.ReadingsChangeNothing : Prop :=
  (∀ s : State, s.portOpen →
    (∀ k : Octet, s.port.started = true → k.toNat = s.profile.station → k.toNat ≤ 15 →
      exec (.readPeer k) s = .next (s.answering 2 8 0x01 (stationData s.roundCtl))) ∧
    (∀ (k : Octet) (q : Peer), s.port.started = false ∨ k.toNat ≠ s.profile.station →
      s.roundCtl.peers[k.toNat]? = some q →
      exec (.readPeer k) s = .next (s.answering 2 8 0x01 (peerData q))) ∧
    (∀ (c : Octet) (ch : Channel), s.channels[c.toNat]? = some ch →
      exec (.readChannel c) s =
        .next
          (s.answering 2 8 0x01
            (channelData (channelCfg s c.toNat)
              (if changeDue c.toNat s then
                { ch with drive :=
                    { ch.drive with
                      level := ch.drive.baseLevel, lastChange := ch.drive.baseLast
                      changes := ch.drive.baseChanges } }
              else ch)))) ∧
    (∀ c, s.drivesQuiet → changeDue c s = false) ∧
    (∀ (c : Nat) (ch ch' : Channel), s.channels[c]? = some ch → (drainDrives s).channels[c]? = some ch' →
      (changeDue c s = true ↔ (s.hold.held = true ∧ (drainDrives s).hold.held = false) ∨
        ch'.drive.level ≠ ch.drive.level ∨ ch'.drive.lastChange ≠ ch.drive.lastChange ∨
        ch'.drive.changes ≠ ch.drive.changes)) ∧
    (∀ os, s.port.loaded = some os →
      exec .readProfile s = .next (s.answering 1 8 0x01 (flagOctet s.port.started :: os))) ∧
    (∀ i : Octet, i.toNat ≤ 47 → entryAt s i.toNat = none →
      exec (.readEntry i) s = .next (s.answering 2 8 0x01 [0])) ∧
    (∀ (i : Octet) (e : Entry), entryAt s i.toNat = some e →
      exec (.readEntry i) s = .next (s.answering 2 8 0x01 (entryData e))) ∧
    (∀ b i n : Octet, b.toNat ≤ 1 → i.toNat ≤ 31 → 1 ≤ n.toNat → n.toNat ≤ 8 →
      exec (.readBank b i n) s =
        .next
          (s.answering 4 8 0x01
            (bankData s.cycle (if b.toNat = 0 then s.cycle.runningBank else s.cycle.stagedBank) i.toNat n.toNat))) ∧
    ∀ (k : Octet) (r : Ring), k.toNat ≤ 7 → s.port.started = true → ringAt s k.toNat = some r →
      exec (.ringStatus k) s = .next (s.answering 2 8 0x01 (ringData r s.journal.discarded))) ∧
  ∀ s : State, s.portOpen →
    (∀ k : Octet, 15 < k.toNat → exec (.readPeer k) s = .next (s.answering 2 8 0x20 [])) ∧
    (∀ c : Octet, 7 < c.toNat → exec (.readChannel c) s = .next (s.answering 2 8 0x20 [])) ∧
    (s.port.loaded = none → exec .readProfile s = .next (s.answering 1 8 0x21 [])) ∧
    (∀ i : Octet, 47 < i.toNat → exec (.readEntry i) s = .next (s.answering 2 8 0x20 [])) ∧
    (∀ b i n : Octet, 1 < b.toNat ∨ 31 < i.toNat ∨ n.toNat = 0 ∨ 8 < n.toNat →
      exec (.readBank b i n) s = .next (s.answering 4 8 0x20 [])) ∧
    (∀ k j : Octet, ∀ n : Word16, 7 < k.toNat →
      exec (.ringStatus k) s = .next (s.answering 2 8 0x20 []) ∧
      exec (.readRing k j) s = .next (s.answering 3 8 0x20 []) ∧
      exec (.releaseRing k n) s = .next (s.answering 4 8 0x20 [])) ∧
    (∀ k j : Octet, ∀ n : Word16, k.toNat ≤ 7 → s.port.started = false →
      exec (.ringStatus k) s = .next (s.answering 2 8 0x10 []) ∧
      exec (.readRing k j) s = .next (s.answering 3 8 0x10 []) ∧
      exec (.releaseRing k n) s = .next (s.answering 4 8 0x10 [])) ∧
    ∀ k j : Octet, ∀ n : Word16, k.toNat ≤ 7 → s.port.started = true → ringAt s k.toNat = none →
      exec (.ringStatus k) s = .next (s.answering 2 8 0x21 []) ∧
      exec (.readRing k j) s = .next (s.answering 3 8 0x21 []) ∧
      exec (.releaseRing k n) s = .next (s.answering 4 8 0x21 [])

/-- The octets of READ_PEER (the values of R58 for the own station, an entry of R53 for a peer), READ_CHANNEL (R74, by
the role), READ_BANK (R140) and RING_STATUS (R90), each at its place, in the encodings of R186 and R199; what these
leave open (the flags octet of READ_PEER, an accepted level that is not settled, the presence octets of a run and of a
drive level, the codes of the banks, the octets that an effect does not use) is the model's choice, assumption 17, and for
bits 3 to 7 of octet 5 of a cyclic entry, which no table names, assumption 18. -/
def Obligations.ReadingsSpelled : Prop :=
  (∀ r : RoundCtl, let d := stationData r
    d.length = 11 ∧ word16At d 0 = r.collisions ∧ word16At d 2 = r.duplicates ∧ word16At d 4 = r.purged ∧
      word16At d 6 = r.reportDrops ∧ octetAt d 8 = octetOf r.queue.length ∧
      octetAt d 9 = octetOf (r.queue.filter Item.isReport).length ∧ octetAt d 10 = flagOctet r.inFlight.isSome) ∧
  (∀ q : Peer, let d := peerData q
    d.length = 22 ∧ octetAt d 0 = octetOf (peerStateCode q.state) ∧
      optionalAt d 1 2 (q.lastRound.map BitVec.toNat) ∧ octetAt d 4 = octetOf q.silent ∧
      optionalAt d 5 2 (q.lastDev.map fun v => (BitVec.ofInt 16 v).toNat) ∧ word16At d 8 = q.lastHeard ∧
      ((octetAt d 10).getLsbD 0 = q.flags.synced ∧ (octetAt d 10).getLsbD 1 = q.flags.holdover ∧
        (octetAt d 10).getLsbD 2 = q.flags.held ∧ (octetAt d 10).getLsbD 3 = q.flags.swapSkipped ∧
        (octetAt d 10).toNat < 16) ∧
      optionalAt d 11 2 (q.lastGen.map BitVec.toNat) ∧ word16At d 14 = q.checkFails ∧ word16At d 16 = q.misplaced ∧
      word16At d 18 = q.mismatches ∧ word16At d 20 = q.foreign) ∧
  (∀ ch : Channel, channelData .unused ch = [0]) ∧
  (∀ (cfg : CaptureCfg) (ch : Channel), let d := channelData (.capture cfg) ch
    let f := ch.filter
    d.length = 31 ∧ octetAt d 0 = 1 ∧ optionalAt d 1 1 (f.accepted.map levelCode) ∧ octetAt d 3 = octetOf f.run ∧
      (f.run = 0 → optionalAt d 4 1 none ∧ optionalAt d 6 6 none) ∧
      (f.run ≠ 0 → optionalAt d 4 1 (some (levelCode f.candidate)) ∧ optionalAt d 6 6 (some f.runStart.toNat)) ∧
      octetAt d 13 = octetOf ch.prescale ∧ word16At d 14 = ch.markSeq ∧ word16At d 16 = ch.publishLoss ∧
      (ch.lastMark = none → ∀ i, 18 ≤ i → i < 31 → octetAt d i = 0) ∧
      ∀ m, ch.lastMark = some m → octetAt d 18 = 1 ∧ octetAt d 19 = octetOf m.station ∧
        octetAt d 20 = octetOf m.channel ∧ octetAt d 21 = octetOf (edgeCode m.edge) ∧ word16At d 22 = m.seq ∧
        ntAt d 24 = m.time ∧ octetAt d 30 = flagOctet m.unsynced) ∧
  (∀ (cfg : DriveCfg) (ch : Channel), let d := channelData (.drive cfg) ch
    d.length = 14 ∧ octetAt d 0 = 2 ∧ optionalAt d 1 1 (ch.drive.level.map levelCode) ∧
      octetAt d 3 = octetOf (levelCode cfg.rest) ∧ octetAt d 4 = octetOf (levelCode cfg.safe) ∧
      optionalAt d 5 6 (ch.drive.lastChange.map BitVec.toNat) ∧ word16At d 12 = ch.drive.changes) ∧
  (∀ (c : CycleUnit) (bank : Bank) (first count : Nat), first ≤ 31 → let d := bankData c bank first count
    d.length = 11 + 13 * min count (32 - first) ∧
      octetAt d 0 = (match c.running with
        | .a => 0
        | .b => 1) ∧
      octetAt d 1 = octetOf (stagedCode c.staged) ∧ word16At d 2 = c.generation ∧
      optionalAt d 4 2 (c.pendingSwap.map BitVec.toNat) ∧ octetAt d 7 = flagOctet c.skip ∧
      octetAt d 8 = octetOf (filledPlaces c.bankA) ∧ octetAt d 9 = octetOf (filledPlaces c.bankB) ∧
      octetAt d 10 = octetOf c.pulseEnds.length ∧
      ∀ i, i < min count (32 - first) → let k := 11 + 13 * i
        (bank[first + i]? = some none → ∀ o, o < 13 → octetAt d (k + o) = 0) ∧
        ∀ e, bank[first + i]? = some (some e) → octetAt d k = 1 ∧ octetAt d (k + 1) = octetOf e.channel ∧
          word32At d (k + 2) = e.offset ∧
          (octetAt d (k + 6) = match e.effect with
            | .set l => octetOf (4 * levelCode l)
            | .toggle => 1
            | .pulse l _ => octetOf (2 + 4 * levelCode l)) ∧
          (word32At d (k + 7) = match e.effect with
            | .set _ => 0
            | .toggle => 0
            | .pulse _ w => w) ∧
          octetAt d (k + 11) = octetOf e.exp ∧ octetAt d (k + 12) = octetOf e.phase) ∧
  ∀ (r : Ring) (discarded : Word16), let d := ringData r discarded
    word16At d 0 = BitVec.ofNat 16 r.defn.base ∧ word16At d 2 = BitVec.ofNat 16 r.defn.length ∧
      (∀ c, r.defn.source = .localChannel c → octetAt d 4 = 0 ∧ octetAt d 5 = octetOf c) ∧
      (∀ stations channels, r.defn.source = .peerMarks stations channels →
        octetAt d 4 = 1 ∧ word16At d 5 = stations ∧ octetAt d 7 = channels) ∧
      (r.defn.source = .reports → octetAt d 4 = 2) ∧
      let k := match r.defn.source with
        | .localChannel _ => 6
        | .peerMarks _ _ => 8
        | .reports => 5
      d.length = k + 18 ∧ word16At d k = BitVec.ofNat 16 r.defn.low ∧
        word16At d (k + 2) = BitVec.ofNat 16 r.readIdx ∧
        word16At d (k + 4) = BitVec.ofNat 16 ((r.readIdx + r.count) % r.defn.length) ∧
        word16At d (k + 6) = BitVec.ofNat 16 r.count ∧ octetAt d (k + 8) = flagOctet r.lowRoom ∧
        word16At d (k + 9) = r.pendingLoss ∧ word32At d (k + 11) = r.totalLost ∧
        octetAt d (k + 15) = flagOctet r.lossReported ∧ word16At d (k + 16) = discarded

/-- The octets of READ_ENTRY (R119: the fields of R92, those of the trigger and of the effect that the entry has) and
of READ_OUTBOUND (R179), and of the 16-octet MARK and REPORT records of 10.7.4 (R77, R78), each at its place, in the
encodings of R186 and R199; what these leave open, such as the presence octets of fields that only some entries or records
have, is the model's choice, assumption 17, and for bits 4 to 7 of octet 0 of a MARK record, which no table names,
assumption 18. -/
def Obligations.EntriesAndRecordsSpelled : Prop :=
  (∀ e : Entry, let d := entryData e
    (octetAt d 0 = match e.state with
        | .waiting _ => 1
        | .scheduled _ => 2
        | .active _ _ _ => 3) ∧
      octetAt d 1 = octetOf e.owner ∧ octetAt d 2 = e.tag ∧ octetAt d 3 = octetOf e.channel ∧
      (∀ t i, e.trigger = .atTime t i →
        octetAt d 4 = 0 ∧ ntAt d 5 = t ∧ optionalAt d 11 4 (i.map BitVec.toNat)) ∧
      (∀ st ch sel delay q, e.trigger = .onMark st ch sel delay q →
        octetAt d 4 = 1 ∧ octetAt d 5 = octetOf st ∧ octetAt d 6 = octetOf ch ∧
          octetAt d 7 = octetOf (edgeSelCode sel) ∧ word32At d 8 = delay ∧ optionalAt d 12 2 (q.map BitVec.toNat)) ∧
      let k := match e.trigger with
        | .atTime _ _ => 16
        | .onMark _ _ _ _ _ => 15
      (∀ l, e.effect = .set l → octetAt d k = 0 ∧ octetAt d (k + 1) = octetOf (levelCode l)) ∧
      (e.effect = .toggle → octetAt d k = 1) ∧
      (∀ l w, e.effect = .pulse l w →
        octetAt d k = 2 ∧ octetAt d (k + 1) = octetOf (levelCode l) ∧ word32At d (k + 2) = w) ∧
      let m := match e.effect with
        | .set _ => k + 2
        | .toggle => k + 1
        | .pulse _ _ => k + 6
      d.length = m + 39 ∧ octetAt d m = octetOf e.remaining ∧ word16At d (m + 1) = BitVec.ofNat 16 e.fireCount ∧
        optionalAt d (m + 3) 6 (e.lastFire.map BitVec.toNat) ∧ optionalAt d (m + 10) 6 (e.expiry.map BitVec.toNat) ∧
        word32At d (m + 17) = e.armSeq ∧
        optionalAt d (m + 21) 6 (match e.state with
          | .scheduled next => some next.toNat
          | .waiting _ => none
          | .active _ _ _ => none) ∧
        optionalAt d (m + 28) 6 (match e.state with
          | .active ends _ _ => some ends.toNat
          | .waiting _ => none
          | .scheduled _ => none) ∧
        optionalAt d (m + 35) 2 (e.lastUsed.map BitVec.toNat) ∧
        octetAt d (m + 38) = flagOctet (match e.state with
          | .active _ _ cancelPending => cancelPending
          | .waiting _ => false
          | .scheduled _ => false)) ∧
  (∀ s : State, s.portOpen → ∃ d, exec .readOutbound s = .next (s.answering 1 8 0x01 d) ∧ d.length = 148 ∧
    octetAt d 0 = s.request.tagCounter ∧ word16At d 1 = s.request.unsolicited ∧
    octetAt d 3 = octetOf ((List.range 16).filter fun i => (recordOf s i).isSome).length ∧
    ∀ i, i < 16 → let k := 4 + 9 * i
      (recordOf s i = none → ∀ o, o < 9 → octetAt d (k + o) = 0) ∧
      ∀ r, recordOf s i = some r → octetAt d k = 1 ∧ octetAt d (k + 1) = r.tag ∧
        octetAt d (k + 2) = octetOf r.target ∧ octetAt d (k + 3) = octetOf r.channel ∧
        octetAt d (k + 4) = octetOf (outStateCode r.state) ∧ octetAt d (k + 5) = flagOctet r.cancelRequested ∧
        optionalAt d (k + 6) 2 (r.roundSent.map BitVec.toNat)) ∧
  (∀ (m : Mark) (fromPeer : Bool) (lost : Nat), let d := markRecord m fromPeer lost
    d.length = 16 ∧
      ((octetAt d 0).getLsbD 0 = false ∧ (octetAt d 0).getLsbD 1 = fromPeer ∧ (octetAt d 0).getLsbD 2 = m.unsynced ∧
        (octetAt d 0).getLsbD 3 = decide (m.edge = .falling) ∧ (octetAt d 0).toNat < 16) ∧
      octetAt d 1 = octetOf lost ∧ octetAt d 2 = octetOf m.station ∧ octetAt d 3 = octetOf m.channel ∧
      word16At d 4 = m.seq ∧ ntAt d 6 = m.time ∧ word32At d 12 = 0) ∧
  ∀ (r : ReportRecord) (lost : Nat), let d := reportRecord r lost
    d.length = 16 ∧
      ((octetAt d 0).getLsbD 0 = true ∧
        ((octetAt d 0).toNat / 2 % 4 = match r.origin with
          | .localAction => 0
          | .outbound => 1
          | .unsolicited => 2) ∧
        (octetAt d 0).getLsbD 3 = r.lastFire.isSome ∧ (octetAt d 0).getLsbD 4 = r.detail.isSome ∧
        (octetAt d 0).getLsbD 5 = r.fireCount.isSome ∧ (octetAt d 0).getLsbD 6 = r.channel.isSome ∧
        (octetAt d 0).getLsbD 7 = r.index.isSome) ∧
      octetAt d 1 = octetOf lost ∧ octetAt d 2 = octetOf r.station ∧ octetAt d 3 = octetOf (r.channel.getD 0) ∧
      octetAt d 4 = r.tag ∧ octetAt d 5 = octetOf (r.index.getD 0) ∧ octetAt d 6 = r.code ∧ octetAt d 7 = 0 ∧
      word16At d 8 = BitVec.ofNat 16 (r.fireCount.getD 0) ∧ word16At d 10 = r.detail.getD 0 ∧
      word32At d 12 = (r.lastFire.getD 0).setWidth 32

/-! ### The journal -/

/-- READ_RING answers the count, the read index, the number of records and the oldest records, oldest first, each from
its place in the journal memory, and changes nothing but the transaction; k of 0 or above 8 is INVALID (R88).
RELEASE_RING frees the n oldest records: the read index advances, the count falls, and the low-room flag is cleared
when the free places lie above the threshold; more than the count is INVALID. Nothing else of the ring, no other ring
and no octet of the journal memory changes (R89, R85). -/
def Obligations.RingsReadAndReleased : Prop :=
  (∀ (s : State) (ring k : Octet) (r : Ring), s.portOpen → s.port.started = true → ring.toNat ≤ 7 →
    ringAt s ring.toNat = some r →
    (k.toNat = 0 ∨ 8 < k.toNat → exec (.readRing ring k) s = .next (s.answering 3 8 0x20 [])) ∧
    (1 ≤ k.toNat → k.toNat ≤ 8 →
      let j := min k.toNat r.count
      ∃ records, exec (.readRing ring k) s =
          .next (s.answering 3 8 0x01 (le 2 r.count ++ le 2 r.readIdx ++ [octetOf j] ++ records)) ∧
        records.length = 16 * j ∧
        ∀ i o, i < j → o < 16 →
          octetAt records (16 * i + o) =
            Memory.read s.journal.mem
              (16 * ((r.defn.base + (r.readIdx + i) % r.defn.length) % 2048) + o))) ∧
  ∀ (s : State) (ring : Octet) (n : Word16) (r : Ring), s.portOpen → s.port.started = true → ring.toNat ≤ 7 →
    ringAt s ring.toNat = some r →
    (r.count < n.toNat → exec (.releaseRing ring n) s = .next (s.answering 4 8 0x20 [])) ∧
    (n.toNat ≤ r.count → r.good →
      let readIdx := (r.readIdx + n.toNat) % r.defn.length
      let count := r.count - n.toNat
      ∃ t, exec (.releaseRing ring n) s =
          .next (t.answering 4 8 0x01 (le 2 count ++ le 2 readIdx)) ∧
        t = { s with journal := { s.journal with rings := t.journal.rings } } ∧
        (∀ k, k ≠ ring.toNat → ringAt t k = ringAt s k) ∧
        ringAt t ring.toNat =
          some
            { r with
              readIdx := readIdx, count := count
              lowRoom := r.lowRoom && decide (r.defn.length - count ≤ r.defn.low) })

/-- A ring that is not full takes a record at the position after those it holds: the record bears the pending losses,
the count rises by one, and every other octet of the journal memory and every other ring stays. A full ring drops it:
the losses are counted, RING_LOST is raised when the ring's loss-reported flag was clear, and the memory, the count,
the indices and the low-room flag stay (R82, R83, R85). -/
def Obligations.RingTakesRecord : Prop :=
  (∀ (s : State) (k : Nat) (r : Ring) (octets : Nat → List Octet), ringAt s k = some r → r.count < r.defn.length →
    (∀ n, (octets n).length = 16) → Memory.wf s.journal.mem →
    let place := (r.defn.base + (r.readIdx + r.count) % r.defn.length) % 2048
    let t := takeRecord k octets s
    ringAt t k =
        some
          { r with
            count := r.count + 1, pendingLoss := 0
            lowRoom := r.lowRoom || decide (r.defn.length - (r.count + 1) ≤ r.defn.low) } ∧
      (∀ o, o < 16 → Memory.read t.journal.mem (16 * place + o) = octetAt (octets (min r.pendingLoss.toNat 255)) o) ∧
      (∀ a, a < 16 * place ∨ 16 * place + 16 ≤ a → Memory.read t.journal.mem a = Memory.read s.journal.mem a) ∧
      (∀ j, j ≠ k → ringAt t j = ringAt s j) ∧ t.journal.discarded = s.journal.discarded ∧
      t.notice.pending =
        (if r.lowRoom = false ∧ r.defn.length - (r.count + 1) ≤ r.defn.low then s.notice.pending ||| 0x100
         else s.notice.pending)) ∧
  ∀ (s : State) (k : Nat) (r : Ring) (octets : Nat → List Octet), ringAt s k = some r → r.defn.length ≤ r.count →
    let t := takeRecord k octets s
    ringAt t k =
        some
          { r with
            pendingLoss := BitVec.ofNat 16 (min (r.pendingLoss.toNat + 1) 65535)
            totalLost := BitVec.ofNat 32 (min (r.totalLost.toNat + 1) 4294967295)
            lossReported := true } ∧
      t.journal.mem = s.journal.mem ∧ (∀ j, j ≠ k → ringAt t j = ringAt s j) ∧
      t.notice.pending = (if r.lossReported then s.notice.pending else s.notice.pending ||| 0x200) ∧
      t.notice.raised = (if r.lossReported then s.notice.raised else s.notice.raised ||| 0x200)

/-! ### The notices -/

/-- READ_NOTICES answers the pending set, the raised-since-read set and the mask, takes the pending set as the
reported set and empties the raised-since-read set; nothing else changes (R194). ACK_NOTICES removes the causes that
were reported and not raised since; with RING_LOST in the operand and the reported set every ring's loss-reported flag
is cleared. A set with bit 15 is INVALID (R195, R84). SET_NOTICE_MASK replaces the mask, before START too; a set with
bit 15 is INVALID. NOTICE_N is LOW exactly while a pending cause is in the mask, and the mask does not gate raises
(R196, R193). -/
def Obligations.NoticesAndMask : Prop :=
  ((∀ s : State, s.portOpen →
    exec .readNotices s =
      .next
        ({ s with notice := { s.notice with reported := s.notice.pending, raised := 0 } }.answering 1 8 0x01
          (le 2 s.notice.pending.toNat ++ le 2 s.notice.raised.toNat ++ le 2 s.notice.mask.toNat))) ∧
  ∀ (s : State) (causes : Word16), s.portOpen →
    (causes.getLsbD 15 = true → exec (.ackNotices causes) s = .next (s.answering 3 8 0x20 [])) ∧
    (causes.getLsbD 15 = false →
      ∃ t pending, exec (.ackNotices causes) s = .next (t.answering 3 8 0x01 (le 2 pending.toNat)) ∧
        (∀ k, k < 16 → pending.getLsbD k =
          (s.notice.pending.getLsbD k &&
            !(causes.getLsbD k && s.notice.reported.getLsbD k && !s.notice.raised.getLsbD k))) ∧
        t = { s with notice := { s.notice with pending := pending }, journal := t.journal } ∧
        (¬ (causes.getLsbD 9 = true ∧ s.notice.reported.getLsbD 9 = true) → t.journal = s.journal) ∧
        (causes.getLsbD 9 = true → s.notice.reported.getLsbD 9 = true →
          t.journal.mem = s.journal.mem ∧ t.journal.discarded = s.journal.discarded ∧
            ∀ k, ringAt t k = (ringAt s k).map fun r => { r with lossReported := false }))) ∧
  (∀ (s : State) (causes : Word16), s.portOpen →
    (causes.getLsbD 15 = true → exec (.setNoticeMask causes) s = .next (s.answering 3 8 0x20 [])) ∧
    (causes.getLsbD 15 = false →
      exec (.setNoticeMask causes) s =
        .next
          ({ s with notice := { s.notice with mask := causes } }.answering 3 8 0x01 (le 2 causes.toNat)))) ∧
  (∀ s : State, s.noticeLow = true ↔
    ∃ k, k < 16 ∧ s.notice.pending.getLsbD k = true ∧ s.notice.mask.getLsbD k = true) ∧
  ∀ (s : State) (c : Cause), (raise c s).notice.pending.getLsbD c.bit = true ∧
    (raise c s).notice.raised.getLsbD c.bit = true ∧ (raise c s).notice.mask = s.notice.mask

/-! ### The action unit -/

/-- When the fields of an arm are valid (R96), and the refusals of a local arm in their order: before START, a channel
that is not DRIVE, held, fields that are not valid, no FREE entry, an AT time before now + 2,000 ns. A refused arm
changes nothing but the transaction (R97). The fields are read as 10.7.3 lays them out (R199); bits 6 and 7 of octet 4,
and bit 5 with an AT trigger, are not read (the model's choice, assumptions 18 and 39). -/
def Obligations.ArmJudgedInOrder : Prop :=
  (∀ (p : Profile) (now : NT) (os : List Octet),
    let f := armFieldsOf os
    f.valid p now = true ↔
      ((f.effect = 0 ∨ f.effect = 1 ∨ (f.effect = 2 ∧ 25 ≤ f.width.toNat)) ∧
        (∀ x, f.expiry = some x → x = now ∨ ntBefore now x = true) ∧
        match f.trigger with
        | .atTime t i =>
          (f.repeats ≠ 0 → 4000 ≤ i.toNat ∧ (f.effect = 2 → f.width.toNat < i.toNat)) ∧
            ∀ x, f.expiry = some x → ntAfter t x = false
        | .onMark st ch e _ _ => st.toNat < p.stations ∧ ch.toNat < 8 ∧ e.toNat ≤ 2)) ∧
  ∀ (s : State) (ch : Octet) (os : List Octet), s.portOpen → os.length = 28 →
    let f := armFieldsOf os
    let valid := f.valid s.profile s.timebase.nt
    (s.port.started = false → exec (.arm ch os) s = .next (s.answering 30 8 0x10 [])) ∧
    (s.port.started = true → driveCfg s ch.toNat = none → exec (.arm ch os) s = .next (s.answering 30 8 0x14 [])) ∧
    (s.port.started = true → (driveCfg s ch.toNat).isSome = true →
      (s.action.held = true → exec (.arm ch os) s = .next (s.answering 30 8 0x13 [])) ∧
      (s.action.held = false → valid = false → exec (.arm ch os) s = .next (s.answering 30 8 0x20 [])) ∧
      (s.action.held = false → valid = true → (∀ i, i < 48 → (entryAt s i).isSome = true) →
        exec (.arm ch os) s = .next (s.answering 30 8 0x11 [])) ∧
      ∀ i t d, s.action.held = false → valid = true → i < 48 → entryAt s i = none → f.trigger = .atTime t d →
        t ≠ s.timebase.nt + 2000 → ntBefore (s.timebase.nt + 2000) t = false →
        exec (.arm ch os) s = .next (s.answering 30 8 0x12 []))

/-- A local arm that passes every check takes the FREE entry with the lowest index, the next arm sequence, and the
first tag from the local tag counter on that no entry of the own station holds; it is answered with index, tag and arm
sequence (R94, R97, R98). The fields are read as 10.7.3 lays them out (R199); bits 6 and 7 of octet 4, and bit 5 with an
AT trigger, are not read (the model's choice, assumptions 18 and 39). -/
def Obligations.ArmCreatesEntry : Prop :=
  ∀ (s : State) (ch : Octet) (os : List Octet) (i k : Nat), s.portOpen → os.length = 28 → s.port.started = true →
    let f := armFieldsOf os
    let tag := s.action.localTag + BitVec.ofNat 8 k
    (driveCfg s ch.toNat).isSome = true → s.action.held = false → f.valid s.profile s.timebase.nt = true →
    i < 48 → entryAt s i = none → (∀ j, j < i → (entryAt s j).isSome = true) →
    (∀ t d, f.trigger = .atTime t d → t = s.timebase.nt + 2000 ∨ ntBefore (s.timebase.nt + 2000) t = true) →
    k < 256 → (∀ j e, entryAt s j = some e → e.owner = s.profile.station → e.tag ≠ tag) →
    (∀ m, m < k → ∃ j e, entryAt s j = some e ∧ e.owner = s.profile.station ∧
      e.tag = s.action.localTag + BitVec.ofNat 8 m) →
    ∃ t e, exec (.arm ch os) s = .next (t.answering 30 8 0x01 ([octetOf i, tag] ++ le 4 s.action.armSeq.toNat)) ∧
      t = { s with action := t.action } ∧ t.action.held = false ∧ t.action.armSeq = s.action.armSeq + 1 ∧
      t.action.localTag = tag + 1 ∧ (∀ j, j ≠ i → entryAt t j = entryAt s j) ∧ entryAt t i = some e ∧
      e.owner = s.profile.station ∧ e.tag = tag ∧ e.channel = ch.toNat ∧ e.remaining = f.repeats ∧ e.fireCount = 0 ∧
      e.lastFire = none ∧ e.expiry = f.expiry ∧ e.armSeq = s.action.armSeq ∧ e.lastUsed = none ∧
      (f.effect = 0 → e.effect = .set f.level) ∧ (f.effect = 1 → e.effect = .toggle) ∧
      (f.effect = 2 → e.effect = .pulse f.level f.width) ∧
      (∀ t0 d, f.trigger = .atTime t0 d →
        e.state = .scheduled t0 ∧ e.trigger = .atTime t0 (if f.repeats = 0 then none else some d)) ∧
      ∀ st c sel d q, f.trigger = .onMark st c sel d q →
        e.state = .waiting s.timebase.stepNo ∧ ∃ edge, edgeSelOf sel = some edge ∧
          e.trigger = .onMark st.toNat c.toNat edge d q

/-- An ARM item of a peer is judged as a local arm is, with the permission set and the duplicate check, and is
answered by one REPORT item: REFUSED with the code of the first failed check and, for a missing permission, the echo;
ACK when the entry stands (R97, R99, R160, R161). The echo's level is the current one, or that of the step before while
what is still due in the step would change the channel (R145; assumption 36). The code 0 of an ACK and the fire count 0 of
an ACK or REFUSED are the model's choice (assumption 40), and so are the bits of the echo that no rule names (assumption
18). -/
def Obligations.RemoteArmAnswered : Prop :=
  ∀ (s : State) (requester : Nat) (tag : Octet) (ch : Nat) (f : ArmFields),
    let answer (kind code : Octet) (detail : Option Word16) : ReportItem :=
      { requester := requester, tag := tag, kind := kind, code := code, lastFire := none, fireCount := 0,
        detail := detail }
    let held := ∃ j e, entryAt s j = some e ∧ e.owner = requester ∧ e.tag = tag
    (driveCfg s ch = none → takeArmItem requester tag ch f s = offerReport (answer 1 0x14 none) s) ∧
    ∀ cfg, driveCfg s ch = some cfg →
      (cfg.permit.getLsbD requester = false →
        takeArmItem requester tag ch f s =
          offerReport
            (answer 1 0x15
              (some
                (BitVec.ofNat 16
                  (levelCode
                    (((s.channels[ch]?).bind fun c =>
                      if changeDue ch s then c.drive.baseLevel else c.drive.level).getD .low) + 2 * s.hold.reasons +
                    16 * syncCode s.timebase.sync + 128 * entriesOnChannel ch s)))) s) ∧
      (cfg.permit.getLsbD requester = true →
        (s.action.held = true → takeArmItem requester tag ch f s = offerReport (answer 1 0x13 none) s) ∧
        (s.action.held = false → held → takeArmItem requester tag ch f s = offerReport (answer 1 0x16 none) s) ∧
        (s.action.held = false → ¬ held → f.valid s.profile s.timebase.nt = false →
          takeArmItem requester tag ch f s = offerReport (answer 1 0x20 none) s) ∧
        (s.action.held = false → ¬ held → f.valid s.profile s.timebase.nt = true →
          (∀ i, i < 48 → (entryAt s i).isSome = true) →
          takeArmItem requester tag ch f s = offerReport (answer 1 0x11 none) s) ∧
        ∀ i, s.action.held = false → ¬ held → f.valid s.profile s.timebase.nt = true → i < 48 → entryAt s i = none →
          (∀ j, j < i → (entryAt s j).isSome = true) →
          (f.inTime s.timebase.nt = false → takeArmItem requester tag ch f s = offerReport (answer 1 0x12 none) s) ∧
          (f.inTime s.timebase.nt = true →
            ∃ u, takeArmItem requester tag ch f s = offerReport (answer 0 0 none) u ∧
              u = { s with action := u.action } ∧ u.action.armSeq = s.action.armSeq + 1 ∧
              u.action.localTag = s.action.localTag ∧ (∀ j, j ≠ i → entryAt u j = entryAt s j) ∧
              entryAt u i = some (armedEntry requester tag ch f s)))

/-- CANCEL: refused before START; INVALID above index 47; NOT_FOUND for a FREE entry or another tag; a WAITING or
SCHEDULED entry ends CANCELLED, an ACTIVE one is marked, and the answer gives the state found (R110). A CANCEL item of
a peer acts on the entry of that owner and tag in the same way; where there is none, a REPORT item with kind OUTCOME
and code NOT_FOUND is offered (R111, R162). -/
def Obligations.CancelEndsOrMarks : Prop :=
  let marked (s t : State) (i : Nat) (e : Entry) (ends : NT) (since : Nat) : Prop := t = { s with action := t.action } ∧
    t.action = { s.action with entries := t.action.entries } ∧
    entryAt t i = some { e with state := .active ends since true } ∧ ∀ j, j ≠ i → entryAt t j = entryAt s j
  (∀ (s : State) (index tag : Octet), s.portOpen →
    (s.port.started = false → exec (.cancel index tag) s = .next (s.answering 3 8 0x10 [])) ∧
    (s.port.started = true → 47 < index.toNat → exec (.cancel index tag) s = .next (s.answering 3 8 0x20 [])) ∧
    (s.port.started = true → index.toNat ≤ 47 → (∀ e, entryAt s index.toNat = some e → e.tag ≠ tag) →
      exec (.cancel index tag) s = .next (s.answering 3 8 0x21 [])) ∧
    ∀ e, s.port.started = true → entryAt s index.toNat = some e → e.tag = tag →
      (∀ n, e.state = .waiting n →
        exec (.cancel index tag) s = .next ((endEntry index.toNat 0x33 none s).answering 3 8 0x01 [1])) ∧
      (∀ n, e.state = .scheduled n →
        exec (.cancel index tag) s = .next ((endEntry index.toNat 0x33 none s).answering 3 8 0x01 [2])) ∧
      ∀ ends since c, e.state = .active ends since c →
        ∃ t, exec (.cancel index tag) s = .next (t.answering 3 8 0x01 [3]) ∧ marked s t index.toNat e ends since) ∧
  ∀ (s : State) (owner : Nat) (tag : Octet),
    ((∀ i e, entryAt s i = some e → ¬ (e.owner = owner ∧ e.tag = tag)) →
      takeCancelItem owner tag s =
        offerReport
          { requester := owner, tag := tag, kind := 2, code := 0x21, lastFire := none, fireCount := 0, detail := none }
          s) ∧
    ∀ i e, entryAt s i = some e → e.owner = owner → e.tag = tag →
      (∀ j f, j < i → entryAt s j = some f → ¬ (f.owner = owner ∧ f.tag = tag)) →
      (∀ n, e.state = .waiting n → takeCancelItem owner tag s = endEntry i 0x33 none s) ∧
      (∀ n, e.state = .scheduled n → takeCancelItem owner tag s = endEntry i 0x33 none s) ∧
      ∀ ends since c, e.state = .active ends since c → marked s (takeCancelItem owner tag s) i e ends since

/-- An entry that ends becomes FREE, and its outcome goes to its owner: a REPORT record for the own station, written
to the REPORTS ring or counted when there is none; for a peer a REPORT item at the tail of the send queue, or, when 32
items stand in it, the report-drop counter and SEND_OVERFLOW (R93, R116, R117, R118, R81, R42). -/
def Obligations.OutcomeDelivered : Prop :=
  ∀ (s : State) (i : Nat) (code : Octet) (detail : Option Word16) (e : Entry), entryAt s i = some e →
    let t := endEntry i code detail s
    let record : ReportRecord :=
      { origin := .localAction, station := e.owner, channel := some e.channel, tag := e.tag, index := some i,
        code := code, fireCount := some e.fireCount, lastFire := e.lastFire, detail := detail }
    let item : ReportItem :=
      { requester := e.owner, tag := e.tag, kind := 2, code := code, lastFire := e.lastFire,
        fireCount := BitVec.ofNat 16 e.fireCount, detail := detail }
    (entryAt t i = none ∧ (∀ j, j ≠ i → entryAt t j = entryAt s j) ∧
      t.action = { s.action with entries := t.action.entries }) ∧
    (e.owner = s.profile.station → t.roundCtl = s.roundCtl ∧
      ((∀ k r, ringAt s k = some r → r.defn.source ≠ .reports) →
        t.journal = { s.journal with discarded := BitVec.ofNat 16 (min (s.journal.discarded.toNat + 1) 65535) } ∧
          t.notice = s.notice) ∧
      ∀ k r, ringAt s k = some r → r.defn.source = .reports →
        (∀ j q, j < k → ringAt s j = some q → q.defn.source ≠ .reports) →
        t.journal = (takeRecord k (reportRecord record) s).journal ∧
          (r.count < r.defn.length → t.notice.pending.getLsbD 10 = true)) ∧
    (e.owner ≠ s.profile.station → t.journal = s.journal ∧
      (s.roundCtl.queue.length < 32 →
        t.roundCtl = { s.roundCtl with queue := s.roundCtl.queue ++ [.report item] } ∧ t.notice = s.notice) ∧
      (32 ≤ s.roundCtl.queue.length →
        t.roundCtl =
            { s.roundCtl with reportDrops := BitVec.ofNat 16 (min (s.roundCtl.reportDrops.toNat + 1) 65535) } ∧
          t.notice.pending = s.notice.pending ||| 0x800))

/-- FIRE takes the first due entry of the fire queue, in the order of (next fire time - now) modulo 2^48 and then arm
order. While held it ends BLOCKED with no request. Otherwise the channel takes an armed start; a PULSE becomes ACTIVE;
a SET or TOGGLE completes: FIRED with no repeats left, WAITING for ON_MARK, and for AT SCHEDULED one interval later,
or EXPIRED when that lies after the expiry (R101, R102, R104, R113). Arm order is that of R94, and of equal arm
sequences the lower index is the earlier (the model's choice, assumption 34). -/
def Obligations.FireRequestsLevel : Prop :=
  ∀ (s : State) (i : Nat) (e : Entry) (due : NT), entryAt s i = some e → e.state = .scheduled due →
    reached s.timebase.nt due = true →
    (∀ j f d, j ≠ i → entryAt s j = some f → f.state = .scheduled d → reached s.timebase.nt d = true →
      (due - s.timebase.nt).toNat < (d - s.timebase.nt).toNat ∨
        (due = d ∧ armEarlier (e.armSeq.toNat, i) (f.armSeq.toNat, j) = true)) →
    let level := match e.effect with
      | .set l => some l
      | .toggle => none
      | .pulse l _ => some l
    let u := requestLevel e.channel
      { kind := .armedStart, due := due, key := e.armSeq.toNat, index := i, level := level } s
    let e' := { e with fireCount := e.fireCount + 1, lastFire := some s.timebase.nt }
    (s.action.held = true → exec .fire s = .next (endEntry i 0x34 none s)) ∧
    (s.action.held = false →
      (∀ l w, e.effect = .pulse l w →
        exec .fire s =
          .next (setEntry i (some { e' with state := .active (due + w.setWidth 48) s.timebase.stepNo false }) u)) ∧
      ((∀ l w, e.effect ≠ .pulse l w) →
        (e.remaining = 0 → exec .fire s = .next (endEntry i 0x30 none (setEntry i (some e') u))) ∧
        (0 < e.remaining → ∀ st c sel d q, e.trigger = .onMark st c sel d q →
          exec .fire s =
            .next
              (setEntry i (some { e' with remaining := e.remaining - 1, state := .waiting s.timebase.stepNo }) u)) ∧
        (0 < e.remaining → ∀ t0 d, e.trigger = .atTime t0 (some d) →
          let next := due + d.setWidth 48
          let e2 := { e' with remaining := e.remaining - 1 }
          ((∃ x, e.expiry = some x ∧ ntAfter next x = true) →
            exec .fire s = .next (endEntry i 0x32 none (setEntry i (some e2) u))) ∧
          ((∀ x, e.expiry = some x → ntAfter next x = false) →
            exec .fire s = .next (setEntry i (some { e2 with state := .scheduled next }) u)))))

/-- PULSE_END, from the step after the fire, once the pulse end time is reached: the channel takes the after-level;
with cancel pending the entry ends CANCELLED, otherwise it completes. EXPIRY of a WAITING entry, from the step after
it became WAITING, once the expiry is reached: the entry ends EXPIRED (R103, R104, R105). That the NT which stands as the
row is taken decides this, in the step of an adoption too, is the model's choice (R3, R4; assumption 42). -/
def Obligations.PulseEndsAndExpiriesTaken : Prop :=
  (∀ (s : State) (i : Nat) (e : Entry) (l : Level) (w : Word32) (ends : NT) (since : Nat) (c : Bool),
    entryAt s i = some e → e.effect = .pulse l w → e.state = .active ends since c → since < s.timebase.stepNo →
    reached s.timebase.nt ends = true →
    let u := requestLevel e.channel
      { kind := .armedEnd, due := ends, key := e.armSeq.toNat, index := i, level := some (oppositeLevel l) } s
    (c = true → exec (.pulseEnd i) s = .next (endEntry i 0x33 none u)) ∧
    (c = false → e.remaining = 0 → exec (.pulseEnd i) s = .next (endEntry i 0x30 none u)) ∧
    (c = false → 0 < e.remaining → ∀ st ch sel d q, e.trigger = .onMark st ch sel d q →
      exec (.pulseEnd i) s =
        .next (setEntry i (some { e with remaining := e.remaining - 1, state := .waiting s.timebase.stepNo }) u)) ∧
    (c = false → 0 < e.remaining → ∀ t0 d, e.trigger = .atTime t0 (some d) →
      let next := ends - w.setWidth 48 + d.setWidth 48
      let e2 := { e with remaining := e.remaining - 1 }
      ((∃ x, e.expiry = some x ∧ ntAfter next x = true) →
        exec (.pulseEnd i) s = .next (endEntry i 0x32 none (setEntry i (some e2) u))) ∧
      ((∀ x, e.expiry = some x → ntAfter next x = false) →
        exec (.pulseEnd i) s = .next (setEntry i (some { e2 with state := .scheduled next }) u)))) ∧
  ∀ (s : State) (i : Nat) (e : Entry) (since : Nat) (x : NT), entryAt s i = some e → e.state = .waiting since →
    e.expiry = some x → since < s.timebase.stepNo → reached s.timebase.nt x = true →
    exec (.expiry i) s = .next (endEntry i 0x32 none s)

/-- A mark and the WAITING entries. An entry that does not match stays; one that matches uses the mark, and ends
MISSED, EXPIRED or BLOCKED, or becomes SCHEDULED at the mark's time plus the delay (R106, R107). The mark is compared
with every WAITING entry, one after another in arm order, and with no other entry: of the WAITING entries all that
match are handled, in that order (R94, R106; of equal arm sequences the lower index is the earlier, the model's choice,
assumption 34). -/
def Obligations.MatchSchedulesOrEnds : Prop :=
  (∀ (s : State) (m : Mark) (i : Nat) (e : Entry) (n st ch : Nat) (sel : EdgeSel) (d : Word32) (q : Option Word16),
    entryAt s i = some e → e.state = .waiting n → e.trigger = .onMark st ch sel d q →
    let hit := st = m.station ∧ ch = m.channel ∧
      (sel = .either ∨ (sel = .rising ∧ m.edge = .rising) ∨ (sel = .falling ∧ m.edge = .falling)) ∧
      (∀ x, q = some x → (m.seq - x).toNat ≤ 32767) ∧
      ∀ x, e.lastUsed = some x → 1 ≤ (m.seq - x).toNat ∧ (m.seq - x).toNat ≤ 32767
    let fire := m.time + d.setWidth 48
    let late := ntBefore fire (s.timebase.nt + 2000) = true
    let past := ∃ x, e.expiry = some x ∧ ntAfter fire x = true
    let u := setEntry i (some { e with lastUsed := some m.seq }) s
    (¬ hit → matchEntry m i s = s) ∧
    (hit → late → matchEntry m i s = endEntry i 0x31 (some m.seq) u) ∧
    (hit → ¬ late → past → matchEntry m i s = endEntry i 0x32 none u) ∧
    (hit → ¬ late → ¬ past → s.action.held = true → matchEntry m i s = endEntry i 0x34 none u) ∧
    (hit → ¬ late → ¬ past → s.action.held = false →
      matchEntry m i s = setEntry i (some { e with lastUsed := some m.seq, state := .scheduled fire }) s)) ∧
  ∀ (s : State) (m : Mark),
    ((∀ j e, entryAt s j = some e → e.isWaiting = true → entryMatches m e = false) → takeMark m s = s) ∧
    (∀ i e, entryAt s i = some e → e.isWaiting = true →
      (∀ j f, j ≠ i → entryAt s j = some f → f.isWaiting = true → entryMatches m f = false) →
      takeMark m s = matchEntry m i s) ∧
    ∀ l : List Nat, (∀ i, i ∈ l ↔ ∃ e, entryAt s i = some e ∧ e.isWaiting = true) →
      l.Pairwise (fun i j => armEarlier (armKey s i) (armKey s j) = true) →
      takeMark m s = l.foldl (fun u i => matchEntry m i u) s

/-! ### The cycle unit -/

/-- STAGE_ENTRY: refused before START; INVALID for an index above 31 or fields out of range; otherwise the entry
replaces what the place of the staged bank held, the staged state becomes EDITING, and the answer gives the filled
places (R122, R123). CLEAR_STAGED: refused before START; INVALID for places that do not lie in 0..31; otherwise the
places are made empty, the staged state becomes EMPTY when no place holds an entry and EDITING otherwise, and the answer
gives the staged state and the filled places (R122, R124). The running bank stays. Bits 3 to 7 of octet 5 of an entry are
not read (the model's choice, assumption 18). -/
def Obligations.StagedBankEdited : Prop :=
  (∀ os : List Octet,
    let ch := (octetAt os 0).toNat
    let code := (octetAt os 5).toNat % 4
    let level := if (octetAt os 5).getLsbD 2 then Level.high else .low
    let width := word32At os 6
    let e := (octetAt os 10).toNat
    let p := (octetAt os 11).toNat
    (cyclicEntryOf os = none ↔ 8 ≤ ch ∨ code = 3 ∨ (code = 2 ∧ width.toNat < 25) ∨ 6 < e ∨ 2 ^ e ≤ p) ∧
      ∀ c, cyclicEntryOf os = some c → c.channel = ch ∧ c.offset = word32At os 1 ∧ c.exp = e ∧ c.phase = p ∧
        (code = 0 → c.effect = .set level) ∧ (code = 1 → c.effect = .toggle) ∧
        (code = 2 → c.effect = .pulse level width)) ∧
  (∀ (s : State) (index : Octet) (os : List Octet), s.portOpen → os.length = 12 →
    (s.port.started = false → exec (.stageEntry index os) s = .next (s.answering 14 8 0x10 [])) ∧
    (s.port.started = true → 31 < index.toNat ∨ cyclicEntryOf os = none →
      exec (.stageEntry index os) s = .next (s.answering 14 8 0x20 [])) ∧
    ∀ c, s.port.started = true → index.toNat ≤ 31 → cyclicEntryOf os = some c →
      ∃ t : State, exec (.stageEntry index os) s =
          .next (t.answering 14 8 0x01 [octetOf (filledPlaces t.cycle.stagedBank)]) ∧
        t = { s with cycle := { s.cycle with bankA := t.cycle.bankA, bankB := t.cycle.bankB, staged := .editing } } ∧
        t.cycle.runningBank = s.cycle.runningBank ∧ t.cycle.stagedBank[index.toNat]? = some (some c) ∧
        ∀ j, j ≠ index.toNat → t.cycle.stagedBank[j]? = s.cycle.stagedBank[j]?) ∧
  ∀ (s : State) (first count : Octet), s.portOpen →
    (s.port.started = false → exec (.clearStaged first count) s = .next (s.answering 3 8 0x10 [])) ∧
    (s.port.started = true → 31 < first.toNat ∨ count.toNat = 0 ∨ 32 < first.toNat + count.toNat →
      exec (.clearStaged first count) s = .next (s.answering 3 8 0x20 [])) ∧
    (s.port.started = true → first.toNat ≤ 31 → 0 < count.toNat → first.toNat + count.toNat ≤ 32 →
      ∃ t : State, exec (.clearStaged first count) s =
          .next (t.answering 3 8 0x01 [octetOf (stagedCode t.cycle.staged), octetOf (filledPlaces t.cycle.stagedBank)]) ∧
        t = { s with cycle :=
                { s.cycle with bankA := t.cycle.bankA, bankB := t.cycle.bankB, staged := t.cycle.staged } } ∧
        t.cycle.runningBank = s.cycle.runningBank ∧
        (∀ j, first.toNat ≤ j → j < first.toNat + count.toNat → t.cycle.stagedBank[j]? = some none) ∧
        (∀ j, j < first.toNat ∨ first.toNat + count.toNat ≤ j →
          t.cycle.stagedBank[j]? = s.cycle.stagedBank[j]?) ∧
        ((∀ j : Nat, j < 32 → t.cycle.stagedBank[j]? = some none) → t.cycle.staged = .empty) ∧
        ((∃ (j : Nat) (c : CyclicEntry), t.cycle.stagedBank[j]? = some (some c)) → t.cycle.staged = .editing))

/-- MARK_READY judges the filled places of the staged bank in ascending order, each by the four checks in their order.
The first failure is answered INVALID with index and reason and changes nothing; when every place passes, an empty
bank included, the bank becomes READY (R122, R125). -/
def Obligations.MarkReadyJudges : Prop :=
  ∀ s : State, s.portOpen →
    let place (i : Nat) (c : CyclicEntry) : Prop := s.cycle.stagedBank[i]? = some (some c)
    let drive (c : CyclicEntry) : Prop := (driveCfg s c.channel).isSome = true
    let inRound (c : CyclicEntry) : Prop := c.offset.toNat < s.profile.period
    let crosses (c : CyclicEntry) : Prop := ∃ l w, c.effect = .pulse l w ∧ s.profile.period ≤ c.offset.toNat + w.toNat
    let fails (i : Nat) (c : CyclicEntry) (reason : Octet) : Prop :=
      (reason = 1 ∧ ¬ drive c) ∨ (reason = 2 ∧ drive c ∧ ¬ inRound c) ∨ (reason = 3 ∧ drive c ∧ inRound c ∧ crosses c) ∨
        (reason = 4 ∧ drive c ∧ inRound c ∧ ¬ crosses c ∧ ∃ j d, j < i ∧ place j d ∧ c.conflicts d = true)
    (s.port.started = false → exec .markReady s = .next (s.answering 1 8 0x10 [])) ∧
    (∀ i c reason, s.port.started = true → place i c → fails i c reason →
      (∀ j d x, j < i → place j d → ¬ fails j d x) →
      exec .markReady s = .next (s.answering 1 8 0x20 [octetOf i, reason])) ∧
    (s.port.started = true → (∀ i c reason, place i c → ¬ fails i c reason) →
      exec .markReady s =
        .next
          ({ s with cycle := { s.cycle with staged := .ready } }.answering 1 8 0x01
            [octetOf (filledPlaces s.cycle.stagedBank)]))

/-- Two entries conflict exactly when they name the same channel and offset and select a round in common, which they do
exactly when their phases are congruent modulo 2 to the power of the smaller exponent, whatever their effects. A
conflict found for an index is reported against it, the higher of the pair (R126). -/
def Obligations.ConflictMeansCommonRound : Prop :=
  (∀ a b : CyclicEntry, a.exp ≤ 6 → b.exp ≤ 6 → a.phase < 2 ^ a.exp → b.phase < 2 ^ b.exp →
    let common : Prop := ∃ r : Word16, r.toNat % 2 ^ a.exp = a.phase ∧ r.toNat % 2 ^ b.exp = b.phase
    (a.conflicts b = true ↔ a.channel = b.channel ∧ a.offset = b.offset ∧ common) ∧
      (common ↔ a.phase % 2 ^ min a.exp b.exp = b.phase % 2 ^ min a.exp b.exp)) ∧
  ∀ (s : State) (i : Nat), stagedFault s = some (i, .conflict) →
    ∃ (j : Nat) (c d : CyclicEntry), j < i ∧ s.cycle.stagedBank[i]? = some (some c) ∧
      s.cycle.stagedBank[j]? = some (some d) ∧ c.conflicts d = true

/-- PROPOSE_SWAP: refused outside SYNCED; INVALID when the round does not lie 2..1,000 rounds ahead; otherwise the
earlier of the pending round and the round proposed is pending, and the answer gives it and whether it is the round
proposed (R131). That it stands there without a presence octet is the model's choice (R186; assumption 17). -/
def Obligations.ProposeSwapJudged : Prop :=
  ∀ (s : State) (r : Word16), s.portOpen →
    (s.timebase.sync ≠ .synced → exec (.proposeSwap r) s = .next (s.answering 3 8 0x10 [])) ∧
    (s.timebase.sync = .synced → (r - s.timebase.round).toNat < 2 ∨ 1000 < (r - s.timebase.round).toNat →
      exec (.proposeSwap r) s = .next (s.answering 3 8 0x20 [])) ∧
    (s.timebase.sync = .synced → 2 ≤ (r - s.timebase.round).toNat → (r - s.timebase.round).toNat ≤ 1000 →
      let pending := match s.cycle.pendingSwap with
        | none => r
        | some q => if numBefore r q then r else q
      exec (.proposeSwap r) s =
        .next
          ({ s with cycle := { s.cycle with pendingSwap := some pending } }.answering 3 8 0x01
            (le 2 pending.toNat ++ [if pending = r then 1 else 0])))

/-- A proposal that does not lie after the current round is ignored with SWAP_STALE; the first, or an earlier one,
becomes pending; any other is ignored (R133). At the start of its round a pending swap is executed when the staged
bank is READY and skipped otherwise; at any other round start only the skip flag is cleared (R135, R136, R137). -/
def Obligations.SwapAgreedAndTaken : Prop :=
  (∀ (s : State) (r : Word16),
    (numBefore s.timebase.round r = false → propose r s = raise .swapStale s) ∧
    (numBefore s.timebase.round r = true →
      (s.cycle.pendingSwap = none → propose r s = { s with cycle := { s.cycle with pendingSwap := some r } }) ∧
      ∀ q, s.cycle.pendingSwap = some q →
        (numBefore r q = true → propose r s = { s with cycle := { s.cycle with pendingSwap := some r } }) ∧
        (numBefore r q = false → propose r s = s))) ∧
  ∀ s : State,
    (s.cycle.pendingSwap = some s.timebase.round → s.cycle.staged = .ready →
      let t := takeSwap s
      t.cycle.runningBank = s.cycle.stagedBank ∧ t.cycle.running ≠ s.cycle.running ∧
        (∀ j : Nat, j < 32 → t.cycle.stagedBank[j]? = some none) ∧
        t.cycle = { s.cycle with
          bankA := t.cycle.bankA, bankB := t.cycle.bankB, running := t.cycle.running, staged := .empty,
          generation := s.cycle.generation + 1, skip := false, pendingSwap := none } ∧
        t = { s with cycle := t.cycle, notice := t.notice } ∧ t.notice.pending = s.notice.pending ||| 0x1000) ∧
    (s.cycle.pendingSwap = some s.timebase.round → s.cycle.staged ≠ .ready →
      takeSwap s = raise .swapSkipped { s with cycle := { s.cycle with skip := true, pendingSwap := none } }) ∧
    (s.cycle.pendingSwap ≠ some s.timebase.round →
      takeSwap s = { s with cycle := { s.cycle with skip := false } })

/-- At a round start in SYNCED or HOLDOVER the fire list holds every filled place of the running bank that selects the
round, at its offset from the round start; in the other states it is empty (R127). CYCLIC_FIRE takes the due fire with
the lowest index: it leaves the fire list, and, unless held, the channel takes a cyclic start and a PULSE adds its
pulse end (R128, R130). CYCLIC_PULSE_END, from the step after the fire, once its instant is reached, drives the
after-level (R129). A round start takes the due fires of the round just ended first, in index order, and nothing else
of it touches the channels and the pulse ends (R127); before a release it takes as many of the due fires at offset 0 as
the order says, in index order (R130, R157; assumption 7). -/
def Obligations.CyclicFiresAndPulseEnds : Prop :=
  (∀ (s : State) (d : CyclicDue),
    let t := cycleRoundStart s
    d ∈ t.cycle.fireList ↔
      ((s.timebase.sync = .synced ∨ s.timebase.sync = .holdover) ∧
        t.cycle.runningBank[d.index]? = some (some d.entry) ∧
        s.timebase.round.toNat % 2 ^ d.entry.exp = d.entry.phase ∧
        d.instant = s.timebase.rs + d.entry.offset.setWidth 48)) ∧
  (∀ (s : State) (before after : List CyclicDue) (d : CyclicDue), s.cycle.fireList = before ++ d :: after →
    (∀ x, x ∈ before ++ after → x.index ≠ d.index) →
    let t := fireCyclic d s
    let u := { s with cycle := { s.cycle with fireList := before ++ after } }
    let request (level : Option Level) : LevelReq :=
      { kind := .cyclicStart, due := d.instant, key := d.index, index := d.index, level := level }
    (reached s.timebase.nt d.instant = true →
      (∀ x, x ∈ before ++ after → reached s.timebase.nt x.instant = true → d.index < x.index) →
      exec .cyclicFire s = .next t) ∧
    (s.cycle.held = true → t = u) ∧
    (s.cycle.held = false →
      (∀ l, d.entry.effect = .set l → t = requestLevel d.entry.channel (request (some l)) u) ∧
      (d.entry.effect = .toggle → t = requestLevel d.entry.channel (request none) u) ∧
      ∀ l w, d.entry.effect = .pulse l w →
        let e : CyclicEnd :=
          { channel := d.entry.channel, after := oppositeLevel l, index := d.index,
            instant := d.instant + w.setWidth 48, since := s.timebase.stepNo }
        t =
          requestLevel d.entry.channel (request (some l))
            { s with cycle :=
                { s.cycle with fireList := before ++ after, pulseEnds := s.cycle.pulseEnds ++ [e] } })) ∧
  (∀ s : State,
    ((∀ d, d ∈ s.cycle.fireList → reached s.timebase.nt d.instant = false) →
      (cycleRoundStart s).channels = s.channels ∧ (cycleRoundStart s).cycle.pulseEnds = s.cycle.pulseEnds) ∧
    ∀ u, s.cycle.fireList.Pairwise (fun x y => x.index ≠ y.index) → exec .cyclicFire s = .next u →
      cycleRoundStart s = cycleRoundStart u) ∧
  (∀ (s : State) (n : Nat),
    let first (d : CyclicDue) : Prop := reached s.timebase.nt d.instant = true ∧ d.entry.offset = 0
    takeOffsetZero 0 s = s ∧ ((∀ d, d ∈ s.cycle.fireList → ¬ first d) → takeOffsetZero n s = s) ∧
    ∀ d, d ∈ s.cycle.fireList → first d → s.cycle.fireList.Pairwise (fun x y => x.index ≠ y.index) →
      (∀ x, x ∈ s.cycle.fireList → first x → d.index ≤ x.index) →
      takeOffsetZero (n + 1) s = takeOffsetZero n (fireCyclic d s)) ∧
  ∀ (s : State) (before after : List CyclicEnd) (e : CyclicEnd), s.cycle.pulseEnds = before ++ e :: after →
    e.since < s.timebase.stepNo → reached s.timebase.nt e.instant = true →
    exec (.cyclicPulseEnd before.length) s =
      .next
        (requestLevel e.channel
          { kind := .cyclicEnd, due := e.instant, key := e.index, index := e.index, level := some e.after }
          { s with cycle := { s.cycle with pulseEnds := before ++ after } })

/-! ### The hold unit -/

/-- HOLD: refused before START; otherwise COMMAND joins the reason set. A RELEASED unit enters HELD; a HELD one stays
HELD, and release pending is cleared. The answer gives the hold state, the reason set and release pending (R150,
R152). RELEASE: refused before START, and with HOLD_REASONS while SYNC or LINE stands. Otherwise COMMAND is removed,
and a HELD unit has release pending set; a RELEASED unit does not change (R151). That bits 3 to 7 of the octet of a reason
set, which no rule names, are 0 in these answers is the model's choice, assumption 18. -/
def Obligations.HoldAndReleaseCommands : Prop :=
  (∀ s : State, s.portOpen →
    let reasons := [1, octetOf (s.hold.reasonSync.toNat + 2 * s.hold.reasonLine.toNat + 4), 0]
    (s.port.started = false → exec .hold s = .next (s.answering 1 8 0x10 [])) ∧
    (s.port.started = true → s.hold.held = true →
      exec .hold s =
        .next
          ({ s with hold := { s.hold with reasonCommand := true, releasePending := false } }.answering 1 8 0x01
            reasons)) ∧
    (s.port.started = true → s.hold.held = false →
      exec .hold s =
        .next ((enterHeld { s with hold := { s.hold with reasonCommand := true } }).answering 1 8 0x01 reasons))) ∧
  ∀ s : State, s.portOpen →
    (s.port.started = false → exec .release s = .next (s.answering 1 8 0x10 [])) ∧
    (s.port.started = true → s.hold.reasonSync = true ∨ s.hold.reasonLine = true →
      exec .release s =
        .next
          (s.answering 1 8 0x22
            [octetOf (s.hold.reasonSync.toNat + 2 * s.hold.reasonLine.toNat + 4 * s.hold.reasonCommand.toNat)])) ∧
    (s.port.started = true → s.hold.reasonSync = false → s.hold.reasonLine = false → s.hold.held = true →
      exec .release s =
        .next
          ({ s with hold := { s.hold with reasonCommand := false, releasePending := true } }.answering 1 8 0x01
            [1, 0, 1])) ∧
    (s.port.started = true → s.hold.consistent → s.hold.held = false →
      exec .release s = .next (s.answering 1 8 0x01 [0, 0, 0]))

/-- A sample of HOLD equal to the accepted state drops the run, one that differs extends it, and the fourth in a row
leaves a change to be accepted; with the line NOT_USED nothing is sampled. HOLD_LINE_ACCEPTED takes the change: the
accepted state turns, and LINE is added, which makes a RELEASED unit enter HELD, or removed, which sets release
pending when no reason is left while HELD (R149, R152, R153). -/
def Obligations.HoldLineAccepted : Prop :=
  (∀ s : State,
    (s.profile.holdLine = .notUsed → sampleHold s = s) ∧
    ∀ active, (s.profile.holdLine = .activeHigh ∧ active = decide (s.pins.hold = .high)) ∨
        (s.profile.holdLine = .activeLow ∧ active = decide (s.pins.hold = .low)) →
      (active = s.hold.lineActive → sampleHold s = { s with hold := { s.hold with lineRun := 0 } }) ∧
      (active ≠ s.hold.lineActive → s.hold.lineRun < 3 →
        sampleHold s = { s with hold := { s.hold with lineRun := s.hold.lineRun + 1 } }) ∧
      (active ≠ s.hold.lineActive → s.hold.lineRun = 3 →
        sampleHold s = { s with hold := { s.hold with lineDue := true } })) ∧
  ∀ s : State, s.hold.lineDue = true →
    (s.hold.lineActive = false →
      let h := { s.hold with lineActive := true, lineRun := 0, lineDue := false, reasonLine := true }
      (s.hold.held = true →
        exec .holdLineAccepted s = .next { s with hold := { h with releasePending := false } }) ∧
      (s.hold.held = false → exec .holdLineAccepted s = .next (enterHeld { s with hold := h }))) ∧
    (s.hold.lineActive = true →
      exec .holdLineAccepted s =
        .next
          { s with hold :=
              { s.hold with
                lineActive := false, lineRun := 0, lineDue := false, reasonLine := false
                releasePending :=
                  s.hold.releasePending || (s.hold.held && !s.hold.reasonSync && !s.hold.reasonCommand) } })

/-- The entry into HELD: every DRIVE channel is forced to its safe level, every WAITING entry stays as it is and every
other entry ends BLOCKED, one after another in arm order, which is the order of their outcomes; the pending cyclic
pulse ends are discarded and the fire list is kept, COMMAND is added under MANUAL, and HOLD_CHANGE is raised (R113,
R130, R146, R152). A round start with release pending leaves HELD: every DRIVE channel stands at its rest level;
without release pending it changes nothing (R115, R146, R154). Of equal arm sequences the lower index is the earlier
(R94; the model's choice, assumption 34). -/
def Obligations.HoldForcesAndReleases : Prop :=
  (∀ s : State,
    let t := enterHeld s
    t.hold = { s.hold with
      held := true, releasePending := false, reasonCommand := s.hold.reasonCommand || s.profile.manual } ∧
    (∀ c cfg ch, driveCfg s c = some cfg → t.channels[c]? = some ch →
      ch.drive.forced = true ∧ ch.drive.level = some cfg.safe) ∧
    (∀ c, driveCfg s c = none → t.channels[c]? = s.channels[c]?) ∧
    t.action.held = true ∧ (∀ i e, entryAt t i = some e ↔ entryAt s i = some e ∧ e.isWaiting = true) ∧
    (∀ l : List Nat, (∀ i, i ∈ l ↔ ∃ e, entryAt s i = some e ∧ e.isWaiting = false) →
      l.Pairwise (fun i j => armEarlier (armKey s i) (armKey s j) = true) →
      let u := l.foldl (fun u i => endEntry i 0x34 none u) s
      t.journal = u.journal ∧ t.roundCtl = u.roundCtl ∧ t.notice.pending = u.notice.pending ||| 0x80 ∧
        t.notice.raised = u.notice.raised ||| 0x80) ∧
    t.cycle = { s.cycle with held := true, pulseEnds := [] } ∧ t.notice.pending.getLsbD 7 = true ∧
    t.timebase = s.timebase ∧ t.profile = s.profile ∧ t.request = s.request ∧ t.port = s.port) ∧
  ∀ s : State,
    (s.hold.releasePending = false → holdRoundStart s = s) ∧
    (s.hold.releasePending = true →
      let t := holdRoundStart s
      t.hold = { s.hold with held := false, releasePending := false } ∧
      (∀ c cfg ch, driveCfg s c = some cfg → t.channels[c]? = some ch →
        ch.drive.forced = false ∧ ch.drive.level = some cfg.rest) ∧
      t.action = { s.action with held := false } ∧ t.cycle = { s.cycle with held := false } ∧
      t.notice.pending = s.notice.pending ||| 0x80 ∧
      t = { s with hold := t.hold, channels := t.channels, action := t.action, cycle := t.cycle, notice := t.notice })

/-! ### The request unit -/

/-- ARM_REMOTE: refused outside SYNCED and HOLDOVER, then for operands out of range, a full outbound table, a send
queue of 28 items or more. Otherwise the ARM item joins the tail of the send queue, and a QUEUED record with the first
free tag from the outbound tag counter on takes the lowest empty place; the answer gives tag and place (R165, R166,
R42). An effect code or a trigger's edge or channel that no check names goes out as it came (assumptions 18 and 19), and
bit 5 of octet 4 with an AT trigger goes out as 0 (the model's choice, assumption 39). -/
def Obligations.ArmRemoteQueued : Prop :=
  ∀ (s : State) (target ch : Octet) (os : List Octet), s.portOpen → os.length = 28 →
    let f := armFieldsOf os
    let run (o : Host.Outcome State Fault Refusal) : Prop := exec (.armRemote target ch os) s = o
    let valid : Prop := target.toNat < s.profile.stations ∧ target.toNat ≠ s.profile.station ∧ ch.toNat < 8 ∧
      (f.effect = 2 → 25 ≤ f.width.toNat) ∧
      match f.trigger with
      | .atTime t i =>
        (f.repeats ≠ 0 → 4000 ≤ i.toNat ∧ (f.effect = 2 → f.width.toNat < i.toNat)) ∧
          ∀ x, f.expiry = some x → ntAfter t x = false
      | .onMark st _ _ _ _ => st.toNat < s.profile.stations
    (s.timebase.sync ≠ .synced → s.timebase.sync ≠ .holdover → run (.next (s.answering 31 8 0x10 []))) ∧
    (s.timebase.sync = .synced ∨ s.timebase.sync = .holdover →
      (¬ valid → run (.next (s.answering 31 8 0x20 []))) ∧
      (valid → (∀ i, i < 16 → (recordOf s i).isSome = true) → run (.next (s.answering 31 8 0x11 [0]))) ∧
      (∀ i, valid → i < 16 → recordOf s i = none → 28 ≤ s.roundCtl.queue.length →
        run (.next (s.answering 31 8 0x11 [1]))) ∧
      ∀ i k, valid → i < 16 → recordOf s i = none → (∀ j, j < i → (recordOf s j).isSome = true) →
        s.roundCtl.queue.length < 28 → k < 256 →
        let tag := s.request.tagCounter + BitVec.ofNat 8 k
        (∀ j r, recordOf s j = some r → r.tag ≠ tag) →
        (∀ m, m < k → ∃ j r, recordOf s j = some r ∧ r.tag = s.request.tagCounter + BitVec.ofNat 8 m) →
        ∃ t : State, run (.next (t.answering 31 8 0x01 [tag, octetOf i])) ∧
          t = { s with
            request := t.request
            roundCtl := { s.roundCtl with queue := s.roundCtl.queue ++ [.arm target.toNat ch.toNat tag f] } } ∧
          recordOf t i =
            some
              { tag := tag, target := target.toNat, channel := ch.toNat, state := .queued, cancelRequested := false,
                roundSent := none } ∧
          (∀ j, j ≠ i → recordOf t j = recordOf s j) ∧ t.request.tagCounter = tag + 1 ∧
          t.request.unsolicited = s.request.unsolicited)

/-- CANCEL_REMOTE: refused before START, NOT_FOUND where no record has the tag. A record whose cancel was requested is
left. A QUEUED record whose ARM item is not in flight is withdrawn: the item leaves the send queue and the record
completes WITHDRAWN. Otherwise a CANCEL item is offered: taken, cancel requested is set; refused, nothing changes
(R43, R173). The answer gives the record's state after a presence octet in every case, which is the model's choice (R186;
assumption 17). -/
def Obligations.CancelRemoteActs : Prop :=
  ∀ (s : State) (tag : Octet), s.portOpen →
    let run (o : Host.Outcome State Fault Refusal) : Prop := exec (.cancelRemote tag) s = o
    let packed := match s.roundCtl.inFlight with
      | none => 0
      | some f => f.packed
    (s.port.started = false → run (.next (s.answering 2 8 0x10 []))) ∧
    (s.port.started = true → (∀ i r, recordOf s i = some r → r.tag ≠ tag) → run (.next (s.answering 2 8 0x21 []))) ∧
    ∀ i r, s.port.started = true → recordOf s i = some r → r.tag = tag →
      (∀ j q, j < i → recordOf s j = some q → q.tag ≠ tag) →
      let code := octetOf (outStateCode r.state)
      let offers : Prop :=
        (28 ≤ s.roundCtl.queue.length → run (.next (s.answering 2 8 0x11 [1]))) ∧
        (s.roundCtl.queue.length < 28 →
          ∃ t : State, run (.next (t.answering 2 8 0x01 [1, 1, code])) ∧
            t = { s with
              request := t.request
              roundCtl := { s.roundCtl with queue := s.roundCtl.queue ++ [.cancel r.target r.tag] } } ∧
            recordOf t i = some { r with cancelRequested := true } ∧ (∀ j, j ≠ i → recordOf t j = recordOf s j) ∧
            t.request.tagCounter = s.request.tagCounter ∧ t.request.unsolicited = s.request.unsolicited)
      (r.cancelRequested = true → run (.next (s.answering 2 8 0x01 [2, 1, code]))) ∧
      (r.cancelRequested = false → r.state ≠ .queued → offers) ∧
      ∀ before after c f, r.cancelRequested = false → r.state = .queued →
        s.roundCtl.queue = before ++ .arm r.target c r.tag f :: after →
        (∀ x, x ∈ before → isArmFor r.target r.tag x = false) →
        (before.length < packed → offers) ∧
        (packed ≤ before.length →
          run
            (.next
              ((completeRecord i 0x39 Carried.nothing
                { s with roundCtl := { s.roundCtl with queue := before ++ after } }).answering 2 8 0x01 [0, 0, 0])))

/-- A REPORT item whose kind or code is not known is discarded. One that finds no record, a QUEUED one, or an ACK that
finds an ACCEPTED one, is written UNSOLICITED and counted. An ACK makes an AWAITING record ACCEPTED; any other report
completes the AWAITING or ACCEPTED record: its place becomes empty and its report goes to the journal (R168, R169,
R170). R168 names no codes of an ACK; that an item of kind ACK is known whatever its code octet is the model's choice
(assumption 40). -/
def Obligations.ReportAnswersRecord : Prop :=
  ∀ (s : State) (station : Nat) (r : ReportItem),
    let known : Prop := r.kind = 0 ∨
      (r.kind = 1 ∧ (r.code = 0x14 ∨ r.code = 0x15 ∨ r.code = 0x13 ∨ r.code = 0x16 ∨ r.code = 0x20 ∨ r.code = 0x11 ∨
        r.code = 0x12)) ∨
      (r.kind = 2 ∧ (r.code = 0x30 ∨ r.code = 0x31 ∨ r.code = 0x32 ∨ r.code = 0x33 ∨ r.code = 0x34 ∨ r.code = 0x21))
    let carries : Prop := r.kind = 2 ∨ (r.kind = 1 ∧ r.code = 0x15)
    let detail := if r.code = 0x31 ∨ r.code = 0x15 then r.detail else none
    let unsolicited (t : State) : Prop := ∃ record : ReportRecord,
      t = journalReport record
        { s with request :=
            { s.request with unsolicited := BitVec.ofNat 16 (min (s.request.unsolicited.toNat + 1) 65535) } } ∧
      record.origin = .unsolicited ∧ record.station = station ∧ record.channel = none ∧ record.tag = r.tag ∧
      record.index = none ∧ (r.kind = 0 → record.code = 0x3A) ∧ (r.kind ≠ 0 → record.code = r.code) ∧
      (r.kind = 2 → record.fireCount = some r.fireCount.toNat) ∧ (carries → record.lastFire = r.lastFire) ∧
      (carries → record.detail = detail) ∧ (r.kind = 0 → record.lastFire = none ∧ record.detail = none)
    let t := takeReportItem station r s
    (¬ known → t = s) ∧
    (known → (∀ i q, recordOf s i = some q → ¬ (q.target = station ∧ q.tag = r.tag)) → unsolicited t) ∧
    ∀ i q, known → recordOf s i = some q → q.target = station → q.tag = r.tag →
      (∀ j x, j < i → recordOf s j = some x → ¬ (x.target = station ∧ x.tag = r.tag)) →
      (q.state = .queued → unsolicited t) ∧ (q.state = .accepted → r.kind = 0 → unsolicited t) ∧
      (q.state = .awaiting → r.kind = 0 → t = setRecord i (some { q with state := .accepted }) s) ∧
      (q.state ≠ .queued → r.kind ≠ 0 →
        t = journalReport
            { origin := .outbound, station := q.target, channel := some q.channel, tag := q.tag, index := none,
              code := r.code, fireCount := if r.kind = 2 then some r.fireCount.toNat else none,
              lastFire := if r.kind = 2 then r.lastFire else none, detail := detail }
            (setRecord i none s))

/-! ### The channel units -/

/-- EDGE_ACCEPTED: the filter's candidate level becomes the accepted level. An edge that does not qualify, or that the
prescaler holds back, makes no mark; otherwise the channel makes a mark with its station, channel, edge, sequence, the
run start as its time and the unsynced flag, and the mark goes to the channel's ring and, when synced, to the send
queue of a publishing channel and to the matcher (R64, R66 to R71). -/
def Obligations.EdgeMakesMark : Prop :=
  ∀ (s : State) (c : Nat) (matcherFirst : Bool) (cfg : CaptureCfg) (ch : Channel), channelCfg s c = .capture cfg →
    s.channels[c]? = some ch → ch.filter.edgeDue = true →
    let edge := match ch.filter.candidate with
      | .high => Edge.rising
      | .low => Edge.falling
    let qualifies : Prop :=
      cfg.edgeSel = .either ∨ (cfg.edgeSel = .rising ∧ edge = .rising) ∨ (cfg.edgeSel = .falling ∧ edge = .falling)
    let ch1 := { ch with filter :=
      { ch.filter with accepted := some ch.filter.candidate, run := 0, edgeDue := false } }
    let only (u : State) (x : Channel) : Prop := u = { s with channels := u.channels } ∧ u.channels[c]? = some x ∧
      ∀ j, j ≠ c → u.channels[j]? = s.channels[j]?
    (¬ qualifies → ∃ u, only u ch1 ∧ exec (.edgeAccepted c matcherFirst) s = .next u) ∧
    (qualifies → ch.prescale + 1 < cfg.prescaler →
      ∃ u, only u { ch1 with prescale := ch.prescale + 1 } ∧ exec (.edgeAccepted c matcherFirst) s = .next u) ∧
    (qualifies → cfg.prescaler ≤ ch.prescale + 1 →
      let trusted : Prop := s.timebase.sync = .synced ∨ s.timebase.sync = .holdover
      let mark (unsynced : Bool) : Mark :=
        { station := s.profile.station, channel := c, edge := edge, seq := ch.markSeq, time := ch.filter.runStart,
          unsynced := unsynced }
      let ch2 (m : Mark) := { ch1 with prescale := 0, markSeq := ch.markSeq + 1, lastMark := some m }
      (¬ trusted →
        ∃ u, only u (ch2 (mark true)) ∧
          exec (.edgeAccepted c matcherFirst) s = .next (journalLocalMark cfg.ring (mark true) u)) ∧
      (trusted →
        let m := mark false
        let offer (v : State) := if cfg.publish then offerMark c m v else v
        ∃ u, only u (ch2 m) ∧
          exec (.edgeAccepted c matcherFirst) s =
            .next
              (if matcherFirst then offer (takeMark m (journalLocalMark cfg.ring m u))
              else takeMark m (offer (journalLocalMark cfg.ring m u)))))

/-- What the journal, the send queue and the matcher take of a mark. A MARK item offered to a send queue of fewer than
28 items joins its tail; otherwise it is refused, and the channel counts a publish loss, stopping at 65,535, with
SEND_OVERFLOW (R42, R70). A local mark goes as a MARK record to the ring its channel names, and to none where it names
none (R79). A peer mark goes to every PEER_MARKS ring whose sets hold its station and its channel, in ascending ring
order (R80). -/
def Obligations.MarksDelivered : Prop :=
  (∀ (s : State) (c : Nat) (m : Mark),
    (s.roundCtl.queue.length < 28 →
      offerMark c m s = { s with roundCtl := { s.roundCtl with queue := s.roundCtl.queue ++ [.mark m] } }) ∧
    (28 ≤ s.roundCtl.queue.length →
      let t := offerMark c m s
      t = { s with
        channels := t.channels
        notice := { s.notice with pending := s.notice.pending ||| 0x800, raised := s.notice.raised ||| 0x800 } } ∧
      (∀ j, j ≠ c → t.channels[j]? = s.channels[j]?) ∧
      t.channels[c]? =
        (s.channels[c]?).map fun ch =>
          { ch with publishLoss := BitVec.ofNat 16 (min (ch.publishLoss.toNat + 1) 65535) })) ∧
  (∀ (s : State) (m : Mark), journalLocalMark none m s = s ∧
    ∀ k, journalLocalMark (some k) m s = takeRecord k (markRecord m false) s) ∧
  ∀ (s : State) (m : Mark) (l : List Nat), l.Pairwise (· < ·) →
    (∀ k, k ∈ l ↔ ∃ r stations channels, ringAt s k = some r ∧ r.defn.source = .peerMarks stations channels ∧
      stations.getLsbD m.station = true ∧ channels.getLsbD m.channel = true) →
    journalPeerMark m s = l.foldl (fun u k => takeRecord k (markRecord m true) u) s

/-- From a settled channel, n samples of the other level in a row complete a run: the edge is to be accepted, with the
time and the step of the first of them; fewer complete none, and a sample of the accepted level drops the run. A
channel that is not settled settles after n equal samples, without an edge (R64). A CAPTURE channel samples once every
2^f reference periods (R63). A sample that R65 takes after the adoption of its step starts its run at the adopted NT
(R65; assumption 7). -/
def Obligations.FilterTakesSettledRuns : Prop :=
  (∀ (f : Filter) (n : Nat) (acc l : Level) (p0 : Nat × NT) (ps : List (Nat × NT)), f.accepted = some acc → l ≠ acc →
    f.run = 0 → f.edgeDue = false →
    let g := (p0 :: ps).foldl (fun (f : Filter) p => f.sample n p.1 p.2 l) f
    (ps.length + 1 = n →
      g.edgeDue = true ∧ g.candidate = l ∧ g.runStart = p0.2 ∧ g.runStep = p0.1 ∧ g.accepted = some acc) ∧
    (ps.length + 1 < n →
      g.edgeDue = false ∧ g.accepted = some acc ∧ g.run = ps.length + 1 ∧ g.runStart = p0.2 ∧ g.runStep = p0.1 ∧
        ∀ k t, (g.sample n k t acc).run = 0 ∧ (g.sample n k t acc).edgeDue = false)) ∧
  (∀ (f : Filter) (n : Nat) (l : Level) (p0 : Nat × NT) (ps : List (Nat × NT)), f.accepted = none → f.run = 0 →
    f.edgeDue = false → ps.length + 1 = n →
    let g := (p0 :: ps).foldl (fun (f : Filter) p => f.sample n p.1 p.2 l) f
    g.accepted = some l ∧ g.run = 0 ∧ g.edgeDue = false) ∧
  (∀ (s : State) (c : Nat) (cfg : CaptureCfg) (ch : Channel), channelCfg s c = .capture cfg →
    s.channels[c]? = some ch →
    let t := capturePeriod s c
    let level := if s.pins.lines.getLsbD c then Level.high else .low
    t = { s with channels := t.channels } ∧ (∀ j, j ≠ c → t.channels[j]? = s.channels[j]?) ∧
      (ch.phase + 1 < 2 ^ cfg.sampleExp → t.channels[c]? = some { ch with phase := ch.phase + 1 }) ∧
      (2 ^ cfg.sampleExp ≤ ch.phase + 1 →
        t.channels[c]? =
          some
            { ch with
              phase := 0, filter := ch.filter.sample cfg.filterLen s.timebase.stepNo s.timebase.nt level })) ∧
  ∀ (s : State) (after : Octet), let t := sampledAfterAdoption after s
    t = { s with channels := t.channels } ∧ s.restamped after t

/-- A DRIVE channel settles all that it takes in a step together. A request joins those of the step and the step is
settled anew; requests that stand in their order are applied one after another to the level at the end of the step
before, or to the rest level after a release; a forced channel settles to its safe level; a level that differs from
the step before counts one change. Whatever order the requests were handed in, the level is the same (R142, R143,
R145). Armed requests of one due instant stand in arm order, and of equal arm sequences the lower index is the earlier
(R94; the model's choice, assumption 34). -/
def Obligations.DriveSettlesStep : Prop :=
  (∀ (s : State) (c : Nat) (r : LevelReq) (cfg : DriveCfg) (ch : Channel), driveCfg s c = some cfg →
    s.channels[c]? = some ch →
    let t := requestLevel c r s
    t = { s with channels := t.channels } ∧ (∀ j, j ≠ c → t.channels[j]? = s.channels[j]?) ∧
      t.channels[c]? =
        some { ch with drive := { ch.drive with requests := ch.drive.requests ++ [r] }.settle s.timebase.nt cfg }) ∧
  (∀ (d : Drive) (cfg : DriveCfg) (now : NT),
    let e := d.settle now cfg
    e.level = d.settled cfg ∧ e.requests = d.requests ∧ e.forced = d.forced ∧
      (e.level = d.baseLevel → e.changes = d.baseChanges ∧ e.lastChange = d.baseLast) ∧
      (e.level ≠ d.baseLevel → e.changes = d.baseChanges + 1 ∧ e.lastChange = some now) ∧
      (d.forced = true → d.settled cfg = some cfg.safe) ∧
      (d.forced = false → d.requests.Pairwise (fun a b => a.precedes b = true) →
        d.settled cfg =
          d.requests.foldl (fun level r => match r.level with
            | some l => some l
            | none => level.map oppositeLevel) (if d.released then some cfg.rest else d.baseLevel))) ∧
  ∀ (d : Drive) (cfg : DriveCfg) (l : List LevelReq) (from' : NT) (first : Word32), d.requests.Perm l →
    (∀ r, r ∈ d.requests → (r.due - from').toNat < 2 ^ 46 ∧
      (r.kind = .armedEnd ∨ r.kind = .armedStart →
        r.key < 2 ^ 32 ∧ (BitVec.ofNat 32 r.key - first).toNat < 2 ^ 30)) →
    d.requests.Pairwise (fun a b => ¬ (a.due = b.due ∧ a.kind = b.kind ∧ a.key = b.key)) →
    { d with requests := l }.settled cfg = d.settled cfg

/-! ### The timebase -/

/-- REFERENCE_PERIOD, with nothing left due in the step that ends: NT advances by 25 ns, or by 24 or 26 ns where the
spacing of a slew runs out, which takes one nanosecond from it; every drive channel begins a new step; from START on
the lines are sampled, and nothing else changes (a period with something left due: `DueEventsTaken`). ADJUSTED_STEP is
that period where the spacing runs out, and no event where it does not (R1, R12, R63, R149; the model's choice for the
last, assumption 4). -/
def Obligations.PeriodAdvancesTime : Prop :=
  ∀ (s : State) (lines : Octet) (hold : Level), s.inReset = false → s.settledStep →
    let adjusted : Prop := s.timebase.slew ≠ 0 ∧ s.timebase.slewLeft ≤ 1
    ∃ t, exec (.referencePeriod lines hold) s = .next t ∧
      t = { s with
        timebase := t.timebase, channels := t.channels, hold := t.hold
        pins := { s.pins with lines := lines, hold := hold } } ∧
      t.timebase = { s.timebase with
        nt := t.timebase.nt, stepNo := s.timebase.stepNo + 1, slew := t.timebase.slew
        slewLeft := t.timebase.slewLeft } ∧
      (¬ adjusted → t.timebase.nt = s.timebase.nt + 25 ∧ t.timebase.slew = s.timebase.slew ∧
        t.timebase.slewLeft = s.timebase.slewLeft - 1) ∧
      (adjusted → 0 < s.timebase.slew → t.timebase.nt = s.timebase.nt + 24 ∧
        t.timebase.slew = s.timebase.slew - 1 ∧ t.timebase.slewLeft = s.timebase.spacing) ∧
      (adjusted → s.timebase.slew < 0 → t.timebase.nt = s.timebase.nt + 26 ∧
        t.timebase.slew = s.timebase.slew + 1 ∧ t.timebase.slewLeft = s.timebase.spacing) ∧
      (∀ c ch ch', s.channels[c]? = some ch → t.channels[c]? = some ch' →
        ch'.drive = { ch.drive with
          baseLevel := ch.drive.level, baseLast := ch.drive.lastChange, baseChanges := ch.drive.changes
          released := false, requests := [] } ∧
        ch'.prescale = ch.prescale ∧ ch'.markSeq = ch.markSeq ∧ ch'.publishLoss = ch.publishLoss ∧
        ch'.lastMark = ch.lastMark ∧
        (∀ cfg, s.port.started = true → channelCfg s c = .capture cfg → 2 ^ cfg.sampleExp ≤ ch.phase + 1 →
          ch'.phase = 0 ∧
            ch'.filter =
              ch.filter.sample cfg.filterLen t.timebase.stepNo t.timebase.nt
                (if lines.getLsbD c then Level.high else .low)) ∧
        (∀ cfg, s.port.started = true → channelCfg s c = .capture cfg → ch.phase + 1 < 2 ^ cfg.sampleExp →
          ch'.phase = ch.phase + 1 ∧ ch'.filter = ch.filter) ∧
        ((s.port.started = false ∨ ∀ cfg, channelCfg s c ≠ .capture cfg) →
          ch'.phase = ch.phase ∧ ch'.filter = ch.filter)) ∧
      t.hold =
        (if s.port.started then (sampleHold { s with pins := { s.pins with lines := lines, hold := hold } }).hold
         else s.hold) ∧
      (adjusted → exec (.adjustedStep lines hold) s = .next t) ∧
      (¬ adjusted → exec (.adjustedStep lines hold) s = .next s)

/-- What is due in a step and was not named is taken as the next reference period begins (R4): the event rows are executed
one after another in the model's order (assumption 3), each as often as it stands due, and then the values of a READ_TIME of
the step are captured, as `StatusAndTimeReported` says (assumption 37). What a reading of a drive line looks ahead to is the
same for the events that bring the drive lines something (assumption 36). Once it has been taken nothing is left due: no
answer, edge, change of the HOLD line, end of the own frame, pulse end, expiry of the listen timer, round end, expiry or
fire, no own send instant, no reception cut short and no capture of a READ_TIME (R15). REFERENCE_PERIOD is then the period
of that state, as `PeriodAdvancesTime` gives it. So it is in OFF, whatever the profile, and from START on with a profile
whose P, station number and bit period are in their ranges. -/
def Obligations.DueEventsTaken : Prop :=
  ∀ s : State,
    s.timebase.sync = .off ∨
      (0 < s.profile.period ∧ s.profile.period ≤ 50000000 ∧ s.profile.station < 256 ∧ 0 < s.profile.bitPeriods) →
    let t := drainDue s
    let due (x : NT) : Prop := reached t.timebase.nt x = true
    let running : Prop := t.timebase.sync = .coldstart ∨ t.timebase.sync = .joining ∨ t.timebase.sync = .synced ∨
      t.timebase.sync = .holdover
    (∀ at' left, t.port.transaction = .answer at' false left → t.timebase.stepNo < at') ∧ t.port.timeDue = false ∧
    (∀ c cfg ch, channelCfg t c = .capture cfg → t.channels[c]? = some ch → ch.filter.edgeDue = false) ∧
    t.hold.lineDue = false ∧
    (∀ f, t.roundCtl.inFlight = some f →
      t.timebase.stepNo < f.begun + f.octets.length * 10 * t.profile.bitPeriods) ∧
    (∀ i e, entryAt t i = some e →
      (∀ d, e.state = .scheduled d → ¬ due d) ∧
      (∀ l w ends since c, e.effect = .pulse l w → e.state = .active ends since c → since < t.timebase.stepNo →
        ¬ due ends) ∧
      ∀ since x, e.state = .waiting since → e.expiry = some x → since < t.timebase.stepNo → ¬ due x) ∧
    (∀ d, d ∈ t.cycle.fireList → ¬ due d.instant) ∧
    (∀ e, e ∈ t.cycle.pulseEnds → e.since < t.timebase.stepNo → ¬ due e.instant) ∧
    (t.timebase.sync = .listen → ∀ x, t.timebase.listenTimer = some x → ¬ due x) ∧
    (running → ¬ due (t.timebase.rs + BitVec.ofNat 48 t.profile.period)) ∧
    (running → t.roundCtl.sendTaken = false →
      ¬ due (t.timebase.rs +
        BitVec.ofNat 48 (t.profile.station * (t.profile.period / t.profile.stations) + t.profile.sendOffset))) ∧
    (∀ r, t.roundCtl.receiver ≠ .cutShort r) ∧
    t.settledStep ∧ (drainDrives s).drivesQuiet ∧
    (∀ lines hold, s.inReset = false →
      exec (.referencePeriod lines hold) s = exec (.referencePeriod lines hold) t) ∧
    let lines : List Instr :=
      .answerReady true :: (List.range 8).map (fun c => .edgeAccepted c false) ++ [.holdLineAccepted, .frameSentWhole]
    let pulses : List Instr := (List.range 48).map .pulseEnd
    let expiries : List Instr := (List.range 48).map .expiry
    let starts (fires cyclicFires : Nat) : List Instr :=
      List.replicate fires .fire ++ List.replicate cyclicFires .cyclicFire
    (∃ (places : List Nat) (rounds fires cyclicFires : Nat) (u v w : State),
      execAll (lines ++ pulses) s = .next u ∧ u.oldestFirst places ∧
      execAll
        (places.map .cyclicPulseEnd ++ [.listenTimerExpiry] ++ List.replicate rounds (.roundEnd defaultOrder) ++
          expiries ++ starts fires cyclicFires ++ [.ownSendInstant]) u = .next v ∧
      ((∃ r, v.roundCtl.receiver = .cutShort r) → exec .frameFailed v = .next w) ∧
      ((∀ r, v.roundCtl.receiver ≠ .cutShort r) → w = v) ∧
      t = { w with port := { w.port with timeDue := false, transaction := t.port.transaction } } ∧
      (w.port.timeDue = false → t.port.transaction = w.port.transaction)) ∧
    ∃ (places : List Nat) (rounds fires cyclicFires : Nat) (u : State),
      execAll (.holdLineAccepted :: pulses) s = .next u ∧ u.oldestFirst places ∧
      execAll
        (places.map .cyclicPulseEnd ++ List.replicate rounds (.roundEnd defaultOrder) ++ starts fires cyclicFires) u =
          .next (drainDrives s)

/-- The correction does not depend on the order of the values: of n values in ascending order it is half the sum,
rounded toward zero, of the least and the greatest that remain once the two, one or no lowest and highest are
discarded (R10). A slew of c with spacing k ends after |c| times k reference periods, in which NT covers c ns less
than 25 ns a period (R12). -/
def Obligations.CorrectionAndSlew : Prop :=
  (∀ v w : List Int, v.Perm w → correctionOf v = correctionOf w) ∧
  (∀ (v : List Int) (a b : Int), v.Pairwise (fun x y => x ≤ y) →
    let k := if 7 ≤ v.length then 2 else if 3 ≤ v.length then 1 else 0
    v[k]? = some a → v[v.length - 1 - k]? = some b → correctionOf v = (a + b).tdiv 2) ∧
  ∀ (t : Timebase) (k j : Nat), 0 < k → t.spacing = k → t.slewLeft = k → j ≤ t.slew.natAbs →
    let u := Nat.repeat Timebase.advance (j * k) t
    u.slew = t.slew - t.slew.sign * j ∧
      u.nt = t.nt + BitVec.ofInt 48 (25 * (j * k : Nat) - t.slew.sign * j) ∧
      u.stepNo = t.stepNo + j * k

/-- LISTEN is left by its timer, reached, for COLDSTART with round 0 from now; or by a reference frame, whose round,
round start and time the timebase adopts, for JOINING; a frame that is no reference frame restarts the timer (R14,
R16, R19, R20, R57). The channels whose sample of the step comes after the adoption start a run of that sample at the
adopted NT (R65; assumption 7). -/
def Obligations.ListenIsLeft : Prop :=
  (∀ (s : State) (x : NT), s.timebase.sync = .listen → s.timebase.listenTimer = some x →
    reached s.timebase.nt x = true →
    ∃ t, exec .listenTimerExpiry s = .next t ∧
      t.timebase = { s.timebase with
        sync := .coldstart, listenTimer := none, coldRounds := 0, round := 0, rs := s.timebase.nt
        epoch := s.timebase.epoch + 1, deviations := Vector.replicate 16 none, slew := 0, spacing := 0, slewLeft := 0 } ∧
      t.roundCtl = { s.roundCtl with heardNow := 0, heardPrev := 0, sendTaken := false } ∧
      t.notice.pending = s.notice.pending ||| 1 ∧
      t = { s with timebase := t.timebase, roundCtl := t.roundCtl, notice := t.notice }) ∧
  ∀ (s : State) (r : Reception) (f : Frame) (octets : List Octet) (after : Octet), s.timebase.sync = .listen →
    s.receives r → frameOf s.profile.bodyBudget octets = some f →
    f.clusterTag = s.profile.clusterTag → f.sender < s.profile.stations → f.sender ≠ s.profile.station →
    (f.startup = true ∨ f.synced = true →
      let arrival := f.roundStart +
        BitVec.ofNat 48
          (f.sender * (s.profile.period / s.profile.stations) + s.profile.sendOffset +
            (s.profile.lineDelays[f.sender]?).getD 0)
      ∃ t, exec (.frameComplete ⟨octets, after⟩) s = .next t ∧
        t.timebase = { s.timebase with
          sync := .joining, listenTimer := none, joinCount := 0, coldRounds := 0, round := f.round, rs := f.roundStart
          nt := s.timebase.nt + (arrival - r.observed), epoch := s.timebase.epoch + 1
          deviations := Vector.replicate 16 none, slew := 0, spacing := 0, slewLeft := 0 } ∧
        t.roundCtl =
          { s.roundCtl with receiver := .waitIdle, heardNow := 0, heardPrev := 0, sendTaken := false } ∧
        t.notice.pending = s.notice.pending ||| 2 ||| 1 ∧ s.restamped after t ∧
        t = { s with timebase := t.timebase, roundCtl := t.roundCtl, channels := t.channels, notice := t.notice }) ∧
    (f.startup = false → f.synced = false →
      exec (.frameComplete ⟨octets, after⟩) s =
        .next
          { s with
            timebase := { s.timebase with
              listenTimer :=
                some
                  (s.timebase.nt +
                    BitVec.ofNat 48
                      (2 * s.profile.period + s.profile.station * (s.profile.period / s.profile.stations))) }
            roundCtl := { s.roundCtl with receiver := .waitIdle } })

/-- COLDSTART gives way for JOINING to a STARTUP frame of a lower station, and to a REGULAR frame with the synced flag
set that fails the round check or the acceptance window: the sender's peer entry is updated with the deviation
measured before the adoption, and the timebase adopts the frame's time (R14, R22, R55, R57). Where the frame was
observed in no round that deviation is a free value (assumption 14). The coldstart attempts count stays. A STARTUP
frame of a higher station that was observed in no round is without effect (R34; assumption 12). A frame whose reception
the own send instant of the step cut short is among them: that it can still end whole and be joined is the model's
choice (R23, R47; assumption 35). -/
def Obligations.ColdstartFrameJoins : Prop :=
  ∀ (s : State) (r : Reception) (f : Frame) (octets : List Octet) (after : Octet), s.timebase.sync = .coldstart →
    s.receives r → frameOf s.profile.bodyBudget octets = some f →
    f.clusterTag = s.profile.clusterTag → f.sender < s.profile.stations → f.sender < 16 →
    f.sender ≠ s.profile.station →
    let offset := BitVec.ofNat 48
      (f.sender * (s.profile.period / s.profile.stations) + s.profile.sendOffset +
        (s.profile.lineDelays[f.sender]?).getD 0)
    let deviation := (r.observed - (r.rs + offset)).toInt
    let passes : Prop := r.inRound = true ∧ f.round = r.round ∧ deviation.natAbs ≤ s.profile.window
    ((f.startup = true ∧ f.sender < s.profile.station) ∨ (f.startup = false ∧ f.synced = true ∧ ¬ passes) →
      ∃ t, exec (.frameComplete ⟨octets, after⟩) s = .next t ∧
        t.timebase = { s.timebase with
          sync := .joining, listenTimer := none, joinCount := 0, coldRounds := 0, round := f.round, rs := f.roundStart
          nt := s.timebase.nt + (f.roundStart + offset - r.observed), epoch := s.timebase.epoch + 1
          deviations := Vector.replicate 16 none, slew := 0, spacing := 0, slewLeft := 0 } ∧
        t.roundCtl =
          { s.roundCtl with
            receiver := .waitIdle, heardNow := 0, heardPrev := 0, sendTaken := false, peers := t.roundCtl.peers } ∧
        (∀ k, k ≠ f.sender → t.roundCtl.peers[k]? = s.roundCtl.peers[k]?) ∧
        (∀ q, s.roundCtl.peers[f.sender]? = some q →
          (∃ d : Int, (-32767 ≤ d ∧ d ≤ 32767) ∧ (r.inRound = true → d = max (-32767) (min deviation 32767)) ∧
            t.roundCtl.peers[f.sender]? =
              some
                { q with
                  state := .heard, lastRound := some f.round, silent := 0, lastHeard := f.heard, lastDev := some d
                  lastGen := some f.generation
                  flags :=
                    { synced := f.synced, holdover := f.holdover, held := f.held, swapSkipped := f.swapSkipped } }) ∧
          t.notice.pending =
            (if q.state = .heard then s.notice.pending else s.notice.pending ||| 0x20) ||| 2 ||| 1) ∧
        (r.inRound = true → t.freeCount = s.freeCount) ∧ s.restamped after t ∧
        t = { s with
          timebase := t.timebase, roundCtl := t.roundCtl, channels := t.channels, notice := t.notice
          freeCount := t.freeCount }) ∧
    (f.startup = true → s.profile.station < f.sender → r.inRound = false →
      exec (.frameComplete ⟨octets, after⟩) s = .next { s with roundCtl := { s.roundCtl with receiver := .waitIdle } })

/-- ROUND_END in SYNCED, in the step that reaches the end of the round, with enough reference frames of which one
names the own station and a correction within the limit: the correction and the counts are recorded, the correction is
set as the slew, and the next round starts one period later with empty lists; SYNCED stays (R6, R9 to R13, R27, R54).
A swap pending for the new round is executed when the staged bank is READY and skipped otherwise, and the fire list
holds the entries of the running bank that select the new round, less the offset-0 fires that the order puts before
the release (R127, R130, R135 to R137, R157; assumption 7). The channels, the pulse ends and the whole cycle unit stand
as the release and the cycle unit's round start leave them, in the order chosen, the due fires of the round just ended
among them (see `CyclicFiresAndPulseEnds` and `HoldForcesAndReleases`). -/
def Obligations.RoundEndStartsRound : Prop :=
  ∀ (s : State) (order : RoundOrder), s.timebase.sync = .synced →
    reached s.timebase.nt (s.timebase.rs + BitVec.ofNat 48 s.profile.period) = true →
    let devs := s.timebase.deviations.toList.filterMap id
    let c := correctionOf (0 :: devs.map Deviation.value)
    1 ≤ s.profile.minRefs → s.profile.minRefs ≤ devs.length → (∃ d, d ∈ devs ∧ d.named = true) →
    c.natAbs ≤ s.profile.corrLimit →
    ∃ t, exec (.roundEnd order) s = .next t ∧
      t.timebase = { s.timebase with
        round := s.timebase.round + 1, rs := s.timebase.rs + BitVec.ofNat 48 s.profile.period
        epoch := s.timebase.epoch + 1, deviations := Vector.replicate 16 none
        corr := c, corrCount := 1 + devs.length, corrApplied := true, refs := devs.length
        refsNaming := (devs.filter Deviation.named).length, thin := 0, unheard := 0
        slew := c, spacing := t.timebase.spacing, slewLeft := t.timebase.spacing } ∧
      (c = 0 → t.timebase.spacing = 0) ∧
      (c ≠ 0 → t.timebase.spacing =
        max (s.profile.period / 25 / c.natAbs)
          ((s.profile.period / 25 + s.profile.corrLimit - 1) / s.profile.corrLimit)) ∧
      t.roundCtl.heardPrev = s.roundCtl.heardNow ∧ t.roundCtl.heardNow = 0 ∧ t.roundCtl.sendTaken = false ∧
      t.roundCtl.queue = s.roundCtl.queue ∧ t.roundCtl.inFlight = s.roundCtl.inFlight ∧
      t.roundCtl.receiver = s.roundCtl.receiver ∧
      (s.hold.releasePending = false → t.hold = s.hold ∧ t.action = s.action) ∧
      (s.hold.releasePending = true → t.hold = { s.hold with held := false, releasePending := false } ∧
        t.action.held = false ∧ t.cycle.held = false) ∧
      (s.cycle.pendingSwap = some t.timebase.round → s.cycle.staged = .ready →
        t.cycle.runningBank = s.cycle.stagedBank ∧ t.cycle.staged = .empty ∧ t.cycle.skip = false ∧
          t.cycle.generation = s.cycle.generation + 1 ∧ t.cycle.pendingSwap = none ∧
          t.notice.pending.getLsbD 12 = true) ∧
      (s.cycle.pendingSwap = some t.timebase.round → s.cycle.staged ≠ .ready →
        t.cycle.runningBank = s.cycle.runningBank ∧ t.cycle.staged = s.cycle.staged ∧ t.cycle.skip = true ∧
          t.cycle.generation = s.cycle.generation ∧ t.cycle.pendingSwap = none ∧
          t.notice.pending.getLsbD 13 = true) ∧
      (s.cycle.pendingSwap ≠ some t.timebase.round →
        t.cycle.runningBank = s.cycle.runningBank ∧ t.cycle.staged = s.cycle.staged ∧ t.cycle.skip = false ∧
          t.cycle.generation = s.cycle.generation ∧ t.cycle.pendingSwap = s.cycle.pendingSwap) ∧
      (let selected (d : CyclicDue) : Prop := t.cycle.runningBank[d.index]? = some (some d.entry) ∧
        t.timebase.round.toNat % 2 ^ d.entry.exp = d.entry.phase ∧
        d.instant = t.timebase.rs + d.entry.offset.setWidth 48
      (order.release = .releaseFirst → ∀ d, d ∈ t.cycle.fireList ↔ selected d) ∧
      ∀ n, order.release = .roundStartFirst n → ∀ d, d ∈ t.cycle.fireList ↔ selected d ∧
        (d.entry.offset = 0 →
          n ≤ ((List.range d.index).filter fun i => ((t.cycle.runningBank[i]?).join).any fun e =>
            e.offset == 0 && t.timebase.round.toNat % 2 ^ e.exp == e.phase).length)) ∧
      (let x := { s with timebase := t.timebase }
      (order.release = .releaseFirst →
        t.channels = (cycleRoundStart (holdRoundStart x)).channels ∧ t.cycle = (cycleRoundStart (holdRoundStart x)).cycle) ∧
      ∀ n, order.release = .roundStartFirst n →
        let u := holdRoundStart (takeOffsetZero n (cycleRoundStart x))
        t.channels = u.channels ∧ t.cycle = u.cycle) ∧
      t.profile = s.profile ∧ t.port = s.port ∧ t.pins = s.pins

/-- ROUND_END in every state: where no round runs, or the step has not reached the end of the round, it is no event
(the model's choice, assumption 2). Otherwise the correction and the counts of the round are recorded, the state
machine takes its transition, and where rounds run after it the next round starts (R6, R10, R11). The transition
itself, by the state, the correction and the reference frames of the round that ends (R24 to R29): a fall to LISTEN is
that of `FallToListenClears`, with its cause; the entry into SYNCED clears the thin and unheard counts, raises
SYNC_CHANGE and removes SYNC from the hold reasons, and from COLDSTART keeps the coldstart round count (the model's reading,
assumption 20); the entry into HOLDOVER clears the counts, raises SYNC_CHANGE and
adds SYNC under hold-on-holdover (R35, R148, R152, R153). -/
def Obligations.RoundEndTransitions : Prop :=
  (∀ (s : State) (order : RoundOrder),
    let running (y : Sync) : Prop := y = .coldstart ∨ y = .joining ∨ y = .synced ∨ y = .holdover
    let devs := s.timebase.deviations.toList.filterMap id
    let c := correctionOf (0 :: devs.map Deviation.value)
    let refs := devs.length
    let naming := (devs.filter Deviation.named).length
    let due : Prop := running s.timebase.sync ∧
      reached s.timebase.nt (s.timebase.rs + BitVec.ofNat 48 s.profile.period) = true
    let u := roundTransition order c refs naming
      { s with timebase :=
        { s.timebase with
          corr := c, corrCount := 1 + refs, corrApplied := false, refs := refs, refsNaming := naming } }
    (¬ due → exec (.roundEnd order) s = .next s) ∧
    (due → ¬ running u.timebase.sync → exec (.roundEnd order) s = .next u) ∧
    (due → running u.timebase.sync →
      exec (.roundEnd order) s = .next (startRound order s.timebase.sync c refs u))) ∧
  ∀ (s : State) (order : RoundOrder) (c : Int) (refs naming : Nat),
    let p := s.profile
    let t := roundTransition order c refs naming s
    let within : Prop := c.natAbs ≤ p.corrLimit
    let falls (cause : Option Cause) (u : State) : Prop := t = fallToListen order cause u
    let syncChange := { s.notice with pending := s.notice.pending ||| 1, raised := s.notice.raised ||| 1 }
    let synced (tb : Timebase) : Prop :=
      t = { s with
        timebase := { tb with sync := .synced, thin := 0, unheard := 0 }
        notice := syncChange
        hold := { s.hold with
          reasonSync := false
          releasePending :=
            s.hold.releasePending || (s.hold.held && !s.hold.reasonLine && !s.hold.reasonCommand) } }
    (s.timebase.sync = .coldstart →
      (p.minRefs ≤ refs → within → synced s.timebase) ∧
      (¬ (p.minRefs ≤ refs ∧ within) → s.timebase.coldRounds < 7 →
        t = { s with timebase := { s.timebase with coldRounds := s.timebase.coldRounds + 1 } }) ∧
      (¬ (p.minRefs ≤ refs ∧ within) → 7 ≤ s.timebase.coldRounds →
        falls (some .coldstartFail)
          { s with timebase := { s.timebase with
            coldAttempts := BitVec.ofNat 16 (min (s.timebase.coldAttempts.toNat + 1) 65535) } })) ∧
    (s.timebase.sync = .joining →
      (s.timebase.joinCount = 0 → ¬ within → falls (some .correctionLimit) s) ∧
      (s.timebase.joinCount = 0 → within → t = { s with timebase := { s.timebase with joinCount := 1 } }) ∧
      (s.timebase.joinCount ≠ 0 → refs = 0 → falls none s) ∧
      (s.timebase.joinCount ≠ 0 → 0 < refs → ¬ within → falls (some .correctionLimit) s) ∧
      (s.timebase.joinCount = 1 → 0 < refs → within →
        t = { s with timebase := { s.timebase with joinCount := 2 } }) ∧
      (2 ≤ s.timebase.joinCount → 0 < refs → within → synced { s.timebase with joinCount := 0 })) ∧
    (s.timebase.sync = .synced →
      let thin := if refs < p.minRefs then s.timebase.thin + 1 else 0
      let unheard := if p.minRefs ≤ refs ∧ naming = 0 then s.timebase.unheard + 1 else 0
      let counted := { s with timebase := { s.timebase with thin := thin, unheard := unheard } }
      (¬ within → falls (some .correctionLimit) counted) ∧
      (within → 4 ≤ unheard → falls (some .unheard) counted) ∧
      (within → unheard < 4 → 2 ≤ thin → p.holdover = 0 → falls none counted) ∧
      (within → unheard < 4 → 2 ≤ thin → p.holdover ≠ 0 →
        let u := { s with
          timebase := { s.timebase with sync := .holdover, holdRounds := 0, thin := 0, unheard := 0 }
          notice := syncChange }
        (p.holdOnHoldover = false → t = u) ∧
        (p.holdOnHoldover = true → s.hold.held = true →
          t = { u with hold := { s.hold with reasonSync := true, releasePending := false } }) ∧
        (p.holdOnHoldover = true → s.hold.held = false →
          t = enterHeld { u with hold := { s.hold with reasonSync := true } })) ∧
      (within → unheard < 4 → thin < 2 → t = counted)) ∧
    (s.timebase.sync = .holdover →
      (¬ within → falls (some .correctionLimit) s) ∧
      (within → p.minRefs ≤ refs → synced { s.timebase with holdRounds := 0 }) ∧
      (within → refs < p.minRefs → p.holdover ≤ s.timebase.holdRounds + 1 → falls none s) ∧
      (within → refs < p.minRefs → s.timebase.holdRounds + 1 < p.holdover →
        t = { s with timebase := { s.timebase with holdRounds := s.timebase.holdRounds + 1 } }))

/-- What a round start does in every state where rounds run, for the timebase, the peers and the outbound records. The new
round is current one period later with an empty deviation list; the correction is applied, as the new slew, when it lies
within C and the round had one reference frame, or m of them when it ended in HOLDOVER, and the slew is zero otherwise
(R6, R9, R11 to R13). A peer not heard in the round that ends is silent for one round more, up to 255, and a HEARD peer
silent for three becomes LOST with PEER_CHANGE; the current heard record becomes the previous one (R54, R56). A record
that is not QUEUED and whose target becomes LOST completes ORPHANED; in SYNCED and HOLDOVER one AWAITING whose reply
deadline is reached completes NO_REPLY; where both hold, the order of the operand decides which (R171, R172;
assumption 7). Each completes once and its report goes to the journal, the records of one peer and those of the deadline
in ascending order of places (R169), the peers in ascending order of their numbers (the model's choice, assumption 38);
every other record stays. -/
def Obligations.RoundStartOfPeersAndRequests : Prop :=
  ∀ (s : State) (order : RoundOrder) (y : Sync) (c : Int) (refs : Nat),
    let t := startRound order y c refs s
    let round := s.timebase.round + 1
    let silent (k : Nat) : Prop := k < s.profile.stations ∧ k < 16 ∧ k ≠ s.profile.station ∧
      s.roundCtl.heardNow.getLsbD k = false
    let becomesLost (k : Nat) : Prop := silent k ∧
      ∃ q, s.roundCtl.peers[k]? = some q ∧ q.state = .heard ∧ q.silent = 2
    let orphaned (r : OutRecord) : Prop := r.state ≠ .queued ∧ becomesLost r.target
    let late (r : OutRecord) : Prop := (s.timebase.sync = .synced ∨ s.timebase.sync = .holdover) ∧
      r.state = .awaiting ∧ ∃ sent, r.roundSent = some sent ∧
        s.profile.replyDeadline ≤ (round - sent).toNat ∧ (round - sent).toNat ≤ 32767
    let applied : Prop := c.natAbs ≤ s.profile.corrLimit ∧ (if y = .holdover then s.profile.minRefs else 1) ≤ refs
    t.timebase = { s.timebase with
      round := round, rs := s.timebase.rs + BitVec.ofNat 48 s.profile.period, epoch := s.timebase.epoch + 1
      deviations := Vector.replicate 16 none, corrApplied := t.timebase.corrApplied, slew := t.timebase.slew
      spacing := t.timebase.spacing, slewLeft := t.timebase.spacing } ∧
    (t.timebase.corrApplied = true ↔ applied) ∧
    (applied → t.timebase.slew = c ∧ (c ≠ 0 → t.timebase.spacing =
      max (s.profile.period / 25 / c.natAbs)
        ((s.profile.period / 25 + s.profile.corrLimit - 1) / s.profile.corrLimit))) ∧
    (¬ applied ∨ c = 0 → t.timebase.slew = 0 ∧ t.timebase.spacing = 0) ∧
    t.roundCtl =
      { s.roundCtl with
        heardPrev := s.roundCtl.heardNow, heardNow := 0, sendTaken := false, peers := t.roundCtl.peers } ∧
    (∀ k q, s.roundCtl.peers[k]? = some q →
      (silent k → t.roundCtl.peers[k]? =
        some
          { q with
            silent := min (q.silent + 1) 255
            state := if q.state = .heard ∧ q.silent = 2 then .lost else q.state }) ∧
      (¬ silent k → t.roundCtl.peers[k]? = some q)) ∧
    ((∃ k, becomesLost k) → t.notice.pending.getLsbD 5 = true) ∧
    (∀ i r, recordOf s i = some r →
      (orphaned r ∨ late r → recordOf t i = none) ∧ (¬ orphaned r → ¬ late r → recordOf t i = some r)) ∧
    t.request.tagCounter = s.request.tagCounter ∧ t.request.unsolicited = s.request.unsolicited ∧
    ∃ orphans lates : List Nat,
      (∀ i, i ∈ orphans ↔ ∃ r, recordOf s i = some r ∧ orphaned r ∧ (late r → order.lossFirst = true)) ∧
      (∀ i, i ∈ lates ↔ ∃ r, recordOf s i = some r ∧ late r ∧ (orphaned r → order.lossFirst = false)) ∧
      orphans.Pairwise (fun i j => ∀ r q, recordOf s i = some r → recordOf s j = some q →
        r.target < q.target ∨ (r.target = q.target ∧ i < j)) ∧
      lates.Pairwise (· < ·) ∧
      let report (code : Octet) (u : State) (i : Nat) : State := match recordOf s i with
        | none => u
        | some r => journalReport
          { origin := .outbound, station := r.target, channel := some r.channel, tag := r.tag, index := none
            code := code, fireCount := none, lastFire := none, detail := none } u
      t.journal =
        (if order.lossFirst then lates.foldl (report 0x36) (orphans.foldl (report 0x37) s)
        else orphans.foldl (report 0x37) (lates.foldl (report 0x36) s)).journal

/-- The fall to LISTEN, in every order that the manual leaves open (assumption 7). The timer is set, round, round start and
NT stand, the deviations, the slew and the counts are cleared (R31). Every peer becomes ABSENT with no silent round and
keeps the rest of its entry, and the heard records are emptied; the send queue keeps its REPORT items in their order and
counts the others as purged, and of a frame in flight only the REPORT items are still to be removed (R57). No swap is
pending, the skip flag and the fire list are cleared, and the banks stand (R139). SYNC is a reason to hold: a RELEASED hold
unit enters HELD, as `HoldForcesAndReleases` says, with the BLOCKED outcomes in arm order (R113, R148; of equal arm sequences
the lower index is the earlier, assumption 34), a HELD one has release pending cleared. From SYNCED or HOLDOVER every
outbound record completes ABANDONED, once each, in ascending order of places (R176). The purge comes before or after these
reports, and the records before or after the BLOCKED outcomes, as the operand says. SYNC_CHANGE and the notice of the cause
are raised. The cycle unit's held indication is then set: by the entry into HELD, and in a HELD station it stands, which
agrees with the hold unit as `HoldKept` says (R148). -/
def Obligations.FallToListenClears : Prop :=
  ∀ (s : State) (order : RoundOrder) (cause : Option Cause),
    let t := fallToListen order cause s
    let trusted : Prop := s.timebase.sync = .synced ∨ s.timebase.sync = .holdover
    let causes : Word16 := (match cause with
      | none => 0
      | some c => BitVec.ofNat 16 (2 ^ c.bit)) ||| 1 ||| (if s.hold.held then 0 else 0x80)
    let kept := s.roundCtl.queue.filter Item.isReport
    let purge (u : State) : State :=
      { u with roundCtl :=
          { u.roundCtl with
            queue := u.roundCtl.queue.filter Item.isReport
            purged := BitVec.ofNat 16
              (min (u.roundCtl.purged.toNat + (u.roundCtl.queue.filter fun i => !i.isReport).length) 65535)
            inFlight := u.roundCtl.inFlight.map fun f =>
              { f with packed := ((u.roundCtl.queue.take f.packed).filter Item.isReport).length } } }
    let abandon (u : State) (i : Nat) : State := match recordOf s i with
      | none => u
      | some r => journalReport
        { origin := .outbound, station := r.target, channel := some r.channel, tag := r.tag, index := none
          code := 0x38, fireCount := none, lastFire := none, detail := none } u
    t.timebase = { s.timebase with
      sync := .listen
      listenTimer :=
        some
          (s.timebase.nt +
            BitVec.ofNat 48 (2 * s.profile.period + s.profile.station * (s.profile.period / s.profile.stations)))
      epoch := s.timebase.epoch + 1, coldRounds := 0, joinCount := 0, thin := 0, unheard := 0, holdRounds := 0
      deviations := Vector.replicate 16 none, slew := 0, spacing := 0, slewLeft := 0 } ∧
    (∀ (k : Nat) (q : Peer), s.roundCtl.peers[k]? = some q →
      t.roundCtl.peers[k]? = some { q with state := .absent, silent := 0 }) ∧
    t.cycle = { s.cycle with
      pendingSwap := none, skip := false, fireList := [], held := s.cycle.held || !s.hold.held
      pulseEnds := if s.hold.held then s.cycle.pulseEnds else []} ∧
    (s.heldAgrees → t.cycle.held = true) ∧
    (s.hold.held = true →
      t.hold = { s.hold with reasonSync := true, releasePending := false } ∧ t.channels = s.channels ∧
        t.action = s.action ∧ t.roundCtl.queue = kept ∧ t.roundCtl.reportDrops = s.roundCtl.reportDrops ∧
        t.roundCtl.purged =
          BitVec.ofNat 16 (min (s.roundCtl.purged.toNat + (s.roundCtl.queue.length - kept.length)) 65535)) ∧
    (s.hold.held = false →
      let v := enterHeld { s with hold := { s.hold with reasonSync := true } }
      t.hold = v.hold ∧ t.channels = v.channels ∧ t.action = v.action ∧ kept <+: t.roundCtl.queue ∧
        ∀ i, i ∈ t.roundCtl.queue → i.isReport = true) ∧
    (trusted → ∀ i, recordOf t i = none) ∧ (¬ trusted → t.request = s.request) ∧
    t.request = { s.request with table := t.request.table } ∧
    (∀ places entries : List Nat, places.Pairwise (· < ·) →
      (∀ i, i ∈ places ↔ trusted ∧ ∃ r, recordOf s i = some r) →
      entries.Pairwise (fun i j => armEarlier (armKey s i) (armKey s j) = true) →
      (∀ i, i ∈ entries ↔ s.hold.held = false ∧ ∃ e, entryAt s i = some e ∧ e.isWaiting = false) →
      let records (u : State) : State := places.foldl abandon u
      let blocked (u : State) : State := entries.foldl (fun u i => endEntry i 0x34 none u) u
      let u0 := if order.purgeFirst then purge s else s
      let u1 := if order.recordsFirst then blocked (records u0) else records (blocked u0)
      let u := if order.purgeFirst then u1 else purge u1
      t.journal = u.journal ∧
        t.roundCtl = { u.roundCtl with peers := t.roundCtl.peers, heardNow := 0, heardPrev := 0 } ∧
        t.notice = { s.notice with
          pending := u.notice.pending ||| causes, raised := u.notice.raised ||| causes }) ∧
    t.profile = s.profile ∧ t.port = s.port ∧ t.pins = s.pins ∧ t.inReset = s.inReset ∧ t.freeCount = s.freeCount

/-! ### The timing bus -/

/-- OWN_SEND_INSTANT in COLDSTART, SYNCED or HOLDOVER begins the own frame: its header, and from the head of the send
queue the items that fit the body, none of them in COLDSTART; a reception under way is cut short (R47). JOINING sends
nothing, and in OFF and LISTEN, before the instant, or a second time in a round it is no event (R32, R38).
FRAME_SENT_WHOLE, after its time on the line, takes the packed items from the queue. COLLISION, at the end of a bit that
the station drove recessive, abandons the frame, counts it and keeps the items, and in COLDSTART leads to LISTEN; at any
other time it is no event. After either the receiver waits for an idle line, but for a reception cut short that is still
to fail (R23, R37 to R40, R44 to R47; that the row says what the receiver finds is the model's choice, assumption 11;
the order in the fall after a collision, assumption 3; that a row named without its cause is no event, assumption 2). -/
def Obligations.OwnFrameSentOrAbandoned : Prop :=
  let waits (s t : State) : Prop :=
    (∀ r, s.roundCtl.receiver = .cutShort r → t.roundCtl.receiver = .cutShort r) ∧
      ((∀ r, s.roundCtl.receiver ≠ .cutShort r) → t.roundCtl.receiver = .waitIdle)
  let instant (s : State) : NT := s.timebase.rs +
    BitVec.ofNat 48 (s.profile.station * (s.profile.period / s.profile.stations) + s.profile.sendOffset)
  (∀ s : State, s.timebase.sync = .off ∨ s.timebase.sync = .listen ∨ s.roundCtl.sendTaken = true ∨
    reached s.timebase.nt (instant s) = false → exec .ownSendInstant s = .next s) ∧
  (∀ s : State, s.timebase.sync = .joining → s.roundCtl.sendTaken = false → reached s.timebase.nt (instant s) = true →
    exec .ownSendInstant s = .next { s with roundCtl := { s.roundCtl with sendTaken := true } }) ∧
  (∀ s : State, s.timebase.sync = .coldstart ∨ s.timebase.sync = .synced ∨ s.timebase.sync = .holdover →
    s.roundCtl.sendTaken = false → s.roundCtl.inFlight = none →
    reached s.timebase.nt (instant s) = true →
    ∃ (t : State) (f : Frame) (n : Nat), exec .ownSendInstant s = .next t ∧
      t = { s with roundCtl :=
        { s.roundCtl with
          sendTaken := true, receiver := t.roundCtl.receiver
          inFlight := some
            { octets := frameOctets f, round := s.timebase.round, begun := s.timebase.stepNo
              packed := f.items.length } } } ∧
      (∀ r, s.roundCtl.receiver = .receiving r → t.roundCtl.receiver = .cutShort r) ∧
      ((∀ r, s.roundCtl.receiver ≠ .receiving r) → t.roundCtl.receiver = s.roundCtl.receiver) ∧
      f.clusterTag = s.profile.clusterTag ∧ f.sender = s.profile.station ∧ f.round = s.timebase.round ∧
      f.roundStart = s.timebase.rs ∧ f.startup = decide (s.timebase.sync = .coldstart) ∧
      f.synced = decide (s.timebase.sync = .synced) ∧ f.holdover = decide (s.timebase.sync = .holdover) ∧
      f.held = s.hold.held ∧ f.swapSkipped = s.cycle.skip ∧ f.pendingSwap = s.cycle.pendingSwap ∧
      f.generation = s.cycle.generation ∧ f.heard = s.roundCtl.heardPrev ∧
      (s.timebase.sync = .coldstart → f.items = []) ∧
      (s.timebase.sync ≠ .coldstart → f.items = s.roundCtl.queue.take n ∧ n ≤ s.roundCtl.queue.length ∧
        (f.items.map Item.size).sum ≤ s.profile.bodyBudget ∧
        (n < s.roundCtl.queue.length →
          s.profile.bodyBudget < ((s.roundCtl.queue.take (n + 1)).map Item.size).sum))) ∧
  (∀ (s : State) (f : OwnFrame), s.roundCtl.inFlight = some f →
    f.begun + f.octets.length * 10 * s.profile.bitPeriods ≤ s.timebase.stepNo →
    ∃ t, exec .frameSentWhole s = .next t ∧
      t = { s with
        request := t.request
        roundCtl := { s.roundCtl with
          inFlight := none, receiver := t.roundCtl.receiver, queue := s.roundCtl.queue.drop f.packed } } ∧
      waits s t ∧ t.request = { s.request with table := t.request.table } ∧
      (s.outTagsDistinct → ∀ i r, recordOf s i = some r →
        (r.state = .queued → (∃ c g, .arm r.target c r.tag g ∈ s.roundCtl.queue.take f.packed) →
          recordOf t i = some { r with state := .awaiting, roundSent := some f.round }) ∧
        ((r.state ≠ .queued ∨ ∀ c g, .arm r.target c r.tag g ∉ s.roundCtl.queue.take f.packed) →
          recordOf t i = some r))) ∧
  (∀ s : State, s.roundCtl.inFlight = none → exec .collision s = .next s) ∧
  ∀ (s : State) (f : OwnFrame), s.roundCtl.inFlight = some f → 0 < s.profile.bitPeriods →
    let recessive (bit : Nat) : Prop :=
      bit % 10 = 9 ∨ (1 ≤ bit % 10 ∧ (octetAt f.octets (bit / 10)).getLsbD (bit % 10 - 1) = true)
    let seen : Prop := ∃ bit, bit < 10 * f.octets.length ∧ recessive bit ∧
      s.timebase.stepNo = f.begun + (bit + 1) * s.profile.bitPeriods
    (¬ seen → exec .collision s = .next s) ∧
    (seen →
      ∃ t, exec .collision s = .next t ∧ t.roundCtl.inFlight = none ∧ waits s t ∧
        t.roundCtl.collisions = BitVec.ofNat 16 (min (s.roundCtl.collisions.toNat + 1) 65535) ∧
        let u := { s with roundCtl := { s.roundCtl with
          inFlight := none, receiver := t.roundCtl.receiver, collisions := t.roundCtl.collisions } }
        (s.timebase.sync ≠ .coldstart → t = u) ∧
        (s.timebase.sync = .coldstart →
          t = fallToListen defaultOrder (some .coldstartFail)
            { u with timebase := { s.timebase with
              coldAttempts := BitVec.ofNat 16 (min (s.timebase.coldAttempts.toNat + 1) 65535) } }))

/-- LINE_IDLE makes a waiting receiver ready, and within a reception it is a failure of that reception;
RECEPTION_START fixes the observed instant and the round current at it (R46, R47). FRAME_FAILED ends the reception,
also one that the own send instant cut short, as a garbled frame: without a count in OFF and LISTEN, and where rounds
run counted as a check failure against the peer whose expected arrival is nearest (R47, R48, R52); in COLDSTART it
also ends the attempt, for LISTEN (R23). With no reception under way it is no event. Neither an idle line nor a start
bit counts while the own frame is in flight. That the rows say what the receiver finds is the model's choice
(assumptions 2, 11, 25 and 30). -/
def Obligations.ReceptionBeginsAndFails : Prop :=
  (∀ s : State, s.roundCtl.inFlight = none → s.roundCtl.receiver = .waitIdle →
    exec .lineIdle s = .next { s with roundCtl := { s.roundCtl with receiver := .ready } }) ∧
  (∀ (s : State) (r : Reception), s.roundCtl.inFlight = none → s.roundCtl.receiver = .receiving r →
    exec .lineIdle s = exec .frameFailed s) ∧
  (∀ s : State, s.roundCtl.inFlight = none → s.roundCtl.receiver = .ready →
    ∃ r : Reception, exec .receptionStart s = .next { s with roundCtl := { s.roundCtl with receiver := .receiving r } } ∧
      r.observed = s.timebase.nt ∧ r.round = s.timebase.round ∧ r.rs = s.timebase.rs ∧
      r.epoch = s.timebase.epoch ∧
      (r.inRound = false ↔ s.timebase.sync = .off ∨ s.timebase.sync = .listen)) ∧
  (∀ s : State, s.roundCtl.inFlight.isSome = true →
    exec .lineIdle s = .next s ∧ exec .receptionStart s = .next s) ∧
  (∀ s : State, (∀ r, ¬ s.receives r) → exec .frameFailed s = .next s) ∧
  ∀ (s : State) (r : Reception), s.receives r →
    let failedOnce (q : Peer) : Peer := { q with checkFails := BitVec.ofNat 16 (min (q.checkFails.toNat + 1) 65535) }
    (s.timebase.sync = .off ∨ s.timebase.sync = .listen →
      exec .frameFailed s = .next { s with roundCtl := { s.roundCtl with receiver := .waitIdle } }) ∧
    (s.timebase.sync = .joining ∨ s.timebase.sync = .synced ∨ s.timebase.sync = .holdover → r.inRound = true →
      ∀ k, s.nearestTo r k →
        ∃ t, exec .frameFailed s = .next t ∧
          t = { s with roundCtl := { s.roundCtl with receiver := .waitIdle, peers := t.roundCtl.peers } } ∧
          (∀ j, j ≠ k → t.roundCtl.peers[j]? = s.roundCtl.peers[j]?) ∧
          t.roundCtl.peers[k]? = (s.roundCtl.peers[k]?).map failedOnce) ∧
    (s.timebase.sync = .coldstart →
      ∃ t, exec .frameFailed s = .next t ∧ t.timebase.sync = .listen ∧
        t.timebase.listenTimer =
          some
            (s.timebase.nt +
              BitVec.ofNat 48 (2 * s.profile.period + s.profile.station * (s.profile.period / s.profile.stations))) ∧
        t.timebase.coldAttempts = BitVec.ofNat 16 (min (s.timebase.coldAttempts.toNat + 1) 65535) ∧
        t.notice.pending.getLsbD 4 = true ∧ t.notice.pending.getLsbD 0 = true ∧
        t.roundCtl.receiver = .waitIdle ∧
        (r.inRound = true → ∀ k, s.nearestTo r k → ∀ j,
          t.roundCtl.peers[j]? =
            (s.roundCtl.peers[j]?).map fun q =>
              { (if j = k then failedOnce q else q) with state := .absent, silent := 0 }))

/-- FRAME_COMPLETE of a frame that is discarded. A garbled one is taken as FRAME_FAILED takes it (R47, R48). A foreign
one is without effect in OFF and LISTEN, and where rounds run it counts as foreign against the peer whose expected
arrival is nearest (R49, R52); observed in no round, against a peer that is a free value (assumption 13). One of the
own station number counts as a duplicate and raises DUPLICATE_STATION in every state (R50). Where rounds run, and the
frame is not taken for joining (R22), one with another round number counts as a round mismatch of its sender, and one
outside the window as misplaced (R48, R51, R52; assumption 12). Nothing else changes. -/
def Obligations.DiscardedFramesCounted : Prop :=
  ∀ (s : State) (r : Reception) (octets : List Octet) (after : Octet), s.receives r →
    let run (t : State) : Prop := exec (.frameComplete ⟨octets, after⟩) s = .next t
    let running : Prop := s.timebase.sync = .coldstart ∨ s.timebase.sync = .joining ∨ s.timebase.sync = .synced ∨
      s.timebase.sync = .holdover
    let plus (n : Word16) : Word16 := BitVec.ofNat 16 (min (n.toNat + 1) 65535)
    let counted (k : Nat) (count : Peer → Peer) (free : Nat) : Prop :=
      ∃ t, run t ∧
        t = { s with
          roundCtl := { s.roundCtl with receiver := .waitIdle, peers := t.roundCtl.peers }
          freeCount := s.freeCount + free } ∧
        (∀ j, j ≠ k → t.roundCtl.peers[j]? = s.roundCtl.peers[j]?) ∧
        t.roundCtl.peers[k]? = (s.roundCtl.peers[k]?).map count
    (frameOf s.profile.bodyBudget octets = none →
      exec (.frameComplete ⟨octets, after⟩) s = exec .frameFailed s) ∧
    ∀ f, frameOf s.profile.bodyBudget octets = some f →
      let foreign : Prop := f.clusterTag ≠ s.profile.clusterTag ∨ s.profile.stations ≤ f.sender
      let isForeign (q : Peer) : Peer := { q with foreign := plus q.foreign }
      let deviation :=
        (r.observed -
          (r.rs +
            BitVec.ofNat 48
              (f.sender * (s.profile.period / s.profile.stations) + s.profile.sendOffset +
                (s.profile.lineDelays[f.sender]?).getD 0))).toInt
      (foreign → ¬ running → run { s with roundCtl := { s.roundCtl with receiver := .waitIdle } }) ∧
      (foreign → running → r.inRound = true → ∀ k, s.nearestTo r k → counted k isForeign 0) ∧
      (foreign → running → r.inRound = false → (∃ k, k < s.profile.stations ∧ k < 16 ∧ k ≠ s.profile.station) →
        ∃ k, (k < s.profile.stations ∧ k < 16 ∧ k ≠ s.profile.station) ∧ counted k isForeign 1) ∧
      (¬ foreign → f.sender = s.profile.station →
        run
          { s with
            roundCtl := { s.roundCtl with receiver := .waitIdle, duplicates := plus s.roundCtl.duplicates }
            notice := { s.notice with pending := s.notice.pending ||| 0x40, raised := s.notice.raised ||| 0x40 } }) ∧
      (¬ foreign → f.sender ≠ s.profile.station → f.sender < 16 → running →
        (s.timebase.sync = .coldstart →
          (f.startup = true → s.profile.station < f.sender) ∧ (f.startup = false → f.synced = false)) →
        (f.startup = true → r.inRound = true) →
        (¬ (r.inRound = true ∧ f.round = r.round) →
          counted f.sender (fun q => { q with mismatches := plus q.mismatches }) 0) ∧
        (r.inRound = true → f.round = r.round → s.profile.window < deviation.natAbs →
          counted f.sender (fun q => { q with misplaced := plus q.misplaced }) 0))

/-- FRAME_COMPLETE of a frame that passes every check where rounds run, and that COLDSTART does not take for joining:
the sender's peer entry and the heard record are updated, and a reference frame observed in the current round leaves
its deviation (R9, R21, R54, R55). The swap field is taken as a proposal except in COLDSTART, and in SYNCED and
HOLDOVER the items are taken one after another (R33, R59, R132): a synced MARK of the sender reaches the matcher and
the journal, and an ARM, CANCEL or REPORT for the own station the request unit. -/
def Obligations.ValidFrameTaken : Prop :=
  (∀ (s : State) (r : Reception) (f : Frame) (octets : List Octet) (after : Octet),
    s.timebase.sync = .coldstart ∨ s.timebase.sync = .joining ∨ s.timebase.sync = .synced ∨
      s.timebase.sync = .holdover →
    (s.timebase.sync = .coldstart → f.startup = true → s.profile.station < f.sender) →
    s.receives r → frameOf s.profile.bodyBudget octets = some f →
    f.clusterTag = s.profile.clusterTag → f.sender < s.profile.stations → f.sender < 16 →
    f.sender ≠ s.profile.station → r.inRound = true → f.round = r.round →
    let arrival := r.rs +
      BitVec.ofNat 48
        (f.sender * (s.profile.period / s.profile.stations) + s.profile.sendOffset +
          (s.profile.lineDelays[f.sender]?).getD 0)
    let deviation := (r.observed - arrival).toInt
    let untrusted : Prop := s.timebase.sync = .coldstart ∨ s.timebase.sync = .joining
    deviation.natAbs ≤ s.profile.window →
    ∃ u v w : State, exec (.frameComplete ⟨octets, after⟩) s = .next w ∧
      (untrusted → w = v) ∧ (¬ untrusted → w = f.items.foldl (handItem f.sender) v) ∧
      (s.timebase.sync = .coldstart ∨ f.pendingSwap = none → v = u) ∧
      (∀ round, s.timebase.sync ≠ .coldstart → f.pendingSwap = some round → v = propose round u) ∧
      u = { s with timebase := u.timebase, roundCtl := u.roundCtl, notice := u.notice } ∧
      u.timebase = { s.timebase with deviations := u.timebase.deviations } ∧
      (∀ k, k ≠ f.sender → u.timebase.deviations[k]? = s.timebase.deviations[k]?) ∧
      ((f.startup = true ∨ f.synced = true) → r.epoch = s.timebase.epoch →
        u.timebase.deviations[f.sender]? =
          some (some { value := deviation, named := f.heard.getLsbD s.profile.station })) ∧
      (¬ ((f.startup = true ∨ f.synced = true) ∧ r.epoch = s.timebase.epoch) →
        u.timebase.deviations = s.timebase.deviations) ∧
      u.roundCtl = { s.roundCtl with
        receiver := .waitIdle, peers := u.roundCtl.peers
        heardNow := s.roundCtl.heardNow ||| BitVec.ofNat 16 (2 ^ f.sender) } ∧
      (∀ k, k ≠ f.sender → u.roundCtl.peers[k]? = s.roundCtl.peers[k]?) ∧
      ∀ q, s.roundCtl.peers[f.sender]? = some q →
        u.roundCtl.peers[f.sender]? =
            some
              { q with
                state := .heard, lastRound := some f.round, silent := 0, lastHeard := f.heard
                lastDev := some (max (-32767) (min deviation 32767)), lastGen := some f.generation
                flags := { synced := f.synced, holdover := f.holdover, held := f.held, swapSkipped := f.swapSkipped } } ∧
          u.notice.pending = (if q.state = .heard then s.notice.pending else s.notice.pending ||| 0x20)) ∧
  ∀ (s : State) (sender : Nat),
    (∀ m, handItem sender s (.mark m) =
      if m.station = sender ∧ m.unsynced = false then journalPeerMark m (takeMark m s) else s) ∧
    (∀ target c tag g, handItem sender s (.arm target c tag g) =
      if target = s.profile.station then takeArmItem sender tag c g s else s) ∧
    (∀ target tag, handItem sender s (.cancel target tag) =
      if target = s.profile.station then takeCancelItem sender tag s else s) ∧
    ∀ q, handItem sender s (.report q) = if q.requester = s.profile.station then takeReportItem sender q s else s

/-- Every frame whose fields fit their octets is read back as it was, where the body stays within the budget; and octets
are read as a frame only if they begin with the start delimiter, have a kind that is STARTUP or REGULAR and a count of 0
for STARTUP, keep the body within the budget, give exactly as many items of known kinds as the count says, and end with
the check sequence of the octets between, and the header's fields are then those of their octets (R37, R40, R41, R47,
10.7.2). The fields of an item, the fields of an ARM among them, are those of the octets that 10.7.3 gives them, least
significant octet first; fill octets and the octets of an absent field are sent as 0 (R199). Bits that the tables do not
name, or name for another trigger, are not read (the model's choice, assumptions 18 and 39). The check sequence is that of
R47: the generator, the preset, the order of the data bits, the complement and the order in which the register is sent. -/
def Obligations.FrameReadBack : Prop :=
  (∀ (budget : Nat) (f : Frame), f.encodable → (f.items.map Item.size).sum ≤ budget →
    frameOf budget (frameOctets f) = some f) ∧
  (∀ (budget : Nat) (os : List Octet) (f : Frame), frameOf budget os = some f →
    28 ≤ os.length ∧ os.length ≤ budget + 28 ∧ octetAt os 0 = 0x6B ∧ (octetAt os 4 = 0x01 ∨ octetAt os 4 = 0x02) ∧
      (octetAt os 4 = 0x01 → octetAt os 20 = 0) ∧
      os.drop (os.length - 4) = checkSequence ((os.take (os.length - 4)).drop 1) ∧
      f.items.length = (octetAt os 20).toNat ∧ (f.items.map Item.size).sum = os.length - 28 ∧
      f.clusterTag = word16At os 1 ∧ f.sender = (octetAt os 3).toNat ∧ (f.startup = true ↔ octetAt os 4 = 0x01) ∧
      f.synced = (octetAt os 5).getLsbD 0 ∧ f.holdover = (octetAt os 5).getLsbD 1 ∧
      f.held = (octetAt os 5).getLsbD 2 ∧ f.swapSkipped = (octetAt os 5).getLsbD 3 ∧ f.round = word16At os 6 ∧
      f.roundStart = ntAt os 8 ∧
      f.pendingSwap = (if (octetAt os 5).getLsbD 4 then some (word16At os 14) else none) ∧
      f.generation = word16At os 16 ∧ f.heard = word16At os 18) ∧
  (∀ (os rest : List Octet) (i : Item), itemOf os = some (i, rest) →
    i.size ≤ os.length ∧ rest = os.drop i.size ∧
      (∀ m, i = .mark m → octetAt os 0 = 0x11 ∧ m.station = (octetAt os 1).toNat ∧ m.channel = (octetAt os 2).toNat ∧
        (m.edge = .falling ↔ (octetAt os 3).getLsbD 0 = true) ∧ m.unsynced = (octetAt os 3).getLsbD 1 ∧
        m.seq = word16At os 4 ∧ m.time = ntAt os 6) ∧
      (∀ target c tag f, i = .arm target c tag f → octetAt os 0 = 0x22 ∧ target = (octetAt os 1).toNat ∧
        c = (octetAt os 2).toNat ∧ tag = octetAt os 3 ∧ f = armFieldsOf ((os.take 32).drop 4)) ∧
      (∀ target tag, i = .cancel target tag → octetAt os 0 = 0x33 ∧ target = (octetAt os 1).toNat ∧
        tag = octetAt os 2) ∧
      ∀ r, i = .report r → octetAt os 0 = 0x44 ∧ r.requester = (octetAt os 1).toNat ∧ r.tag = octetAt os 2 ∧
        r.kind = octetAt os 3 ∧ r.code = octetAt os 4 ∧ r.fireCount = word16At os 6 ∧
        r.lastFire = (if (octetAt os 5).getLsbD 0 then some (ntAt os 8) else none) ∧
        r.detail = if (octetAt os 5).getLsbD 1 then some (word16At os 14) else none) ∧
  (∀ os : List Octet, let f := armFieldsOf os
    let flag (k : Nat) : Bool := (octetAt os 0).getLsbD k
    (flag 0 = false → f.trigger = .atTime (ntAt os 12) (word32At os 18)) ∧
      (flag 0 = true → f.trigger = .onMark (octetAt os 12) (octetAt os 13) (octetAt os 14) (word32At os 16)
        (if flag 5 then some (word16At os 20) else none)) ∧
      f.effect = (flag 1).toNat + 2 * (flag 2).toNat ∧ (f.level = .high ↔ flag 3 = true) ∧
      f.expiry = (if flag 4 then some (ntAt os 2) else none) ∧ f.repeats = (octetAt os 1).toNat ∧
      f.width = word32At os 8) ∧
  (∀ (os : List Octet) (i k : Nat),
    fieldAt os i k = ((List.range k).map fun j => (octetAt os (i + j)).toNat * 256 ^ j).sum ∧
      word16At os i = BitVec.ofNat 16 (fieldAt os i 2) ∧ word32At os i = BitVec.ofNat 32 (fieldAt os i 4) ∧
      ntAt os i = BitVec.ofNat 48 (fieldAt os i 6)) ∧
  ((∀ m o, 12 ≤ o → o < 16 → octetAt (itemOctets (.mark m)) o = 0) ∧
    (∀ target tag o, 3 ≤ o → o < 8 → octetAt (itemOctets (.cancel target tag)) o = 0) ∧
    (∀ r, let d := itemOctets (.report r)
      (∀ o, 16 ≤ o → o < 24 → octetAt d o = 0) ∧ (r.lastFire = none → ntAt d 8 = 0) ∧
        (r.detail = none → word16At d 14 = 0)) ∧
    (∀ target c tag f, let d := itemOctets (.arm target c tag f)
      (∀ o, 26 ≤ o → o < 32 → octetAt d o = 0) ∧ (f.expiry = none → ntAt d 6 = 0) ∧
        ∀ st ch e delay q, f.trigger = .onMark st ch e delay q →
          octetAt d 19 = 0 ∧ (q = none → word16At d 24 = 0)) ∧
    ∀ f : Frame, (∀ o, 21 ≤ o → o < 24 → octetAt (frameOctets f) o = 0) ∧
      (f.pendingSwap = none → word16At (frameOctets f) 14 = 0)) ∧
  (∀ (reg : Word32) (bit : Bool) (i : Nat), i < 32 →
    (crcBit reg bit).getLsbD i =
      ((decide (0 < i) && reg.getLsbD (i - 1)) ^^
        ((reg.getLsbD 31 ^^ bit) && [0, 1, 2, 4, 5, 7, 8, 10, 11, 12, 16, 22, 23, 26].contains i))) ∧
  ∀ os : List Octet,
    crcRegister os =
        ~~~ ((os.flatMap fun o => (List.range 8).map fun i => o.getLsbD i).foldl crcBit (BitVec.allOnes 32)) ∧
      (checkSequence os).length = 4 ∧
      ∀ j i, j < 4 → i < 8 → (octetAt (checkSequence os) j).getLsbD i = (crcRegister os).getLsbD (31 - (8 * j + i))

/-! ### Invariants -/

/-- The state after reset meets every invariant that the statements below say each step keeps. -/
def Obligations.ResetMeetsInvariants : Prop :=
  State.reset.memoryCanonical ∧ State.reset.queueBounded ∧ State.reset.profileKept ∧ State.reset.ringsGood ∧
    State.reset.noticesNamed ∧ State.reset.hold.consistent ∧ State.reset.untrustedHeld ∧ State.reset.heldAgrees ∧
    State.reset.forcedSafe ∧ State.reset.heldQuiet ∧ State.reset.ownersDistinct ∧ State.reset.outTagsDistinct ∧
    State.reset.recordsTrusted ∧ State.reset.swapAhead ∧ State.reset.timerInListen ∧ State.reset.countsInRange

/-- Every step keeps the journal memory in its canonical form and inside its 2,048 places, every ring within its
definition, the loaded profile a judged one, and the notice sets within the fifteen causes (R75, R76, R85, R187,
R192). -/
def Obligations.JournalAndProfileKept : Prop :=
  ∀ s t : State, step s = .next t →
    s.memoryCanonical → s.profileKept → s.ringsGood → s.noticesNamed → s.timerInListen →
    t.memoryCanonical ∧ t.profileKept ∧ t.ringsGood ∧ t.noticesNamed

/-- Every step keeps the send queue at 32 items or fewer, of which 28 or fewer are no REPORT items, no two entries of
the armed list with the same owner and tag, and no two outbound records with the same tag (R42, R93, R164). -/
def Obligations.QueueAndTagsKept : Prop :=
  ∀ s t : State, step s = .next t →
    s.queueBounded → s.ownersDistinct → s.outTagsDistinct →
    t.queueBounded ∧ t.ownersDistinct ∧ t.outTagsDistinct

/-- Every step keeps the hold unit consistent, HELD outside SYNCED and HOLDOVER, and the blocks in agreement with it:
while HELD every DRIVE line stands at its safe level, no entry is SCHEDULED or ACTIVE, and no cyclic pulse end is
pending (R113, R130, R146, R148, R152, R153). -/
def Obligations.HoldKept : Prop :=
  ∀ s t : State, step s = .next t →
    s.hold.consistent → s.untrustedHeld → s.heldAgrees → s.forcedSafe → s.heldQuiet → s.timerInListen →
    t.hold.consistent ∧ t.untrustedHeld ∧ t.heldAgrees ∧ t.forcedSafe ∧ t.heldQuiet ∧ t.timerInListen

/-- Every step keeps the counts of the state machine in their ranges, the listen timer in LISTEN only, a pending swap
ahead of the current round, and outbound records in SYNCED and HOLDOVER only (R17, R132, R133, R139, R164). -/
def Obligations.SyncKept : Prop :=
  ∀ s t : State, step s = .next t →
    s.timerInListen → s.countsInRange → s.swapAhead → s.recordsTrusted →
    t.timerInListen ∧ t.countsInRange ∧ t.swapAhead ∧ t.recordsTrusted

end
end

