-- ==== Sys2Proof/Laws/State.lean ====
section
/-! SUPPORT. What each update of the state leaves alone and what it sets: every part is true by rfl. -/

namespace Sys2Proof.Machine

/-- Raising a cause touches the notice unit only (R192). -/
@[simp] theorem raise_frame (c : Cause) (s : State) :
    (raise c s).pins = s.pins ∧ (raise c s).inReset = s.inReset ∧ (raise c s).profile = s.profile ∧
    (raise c s).timebase = s.timebase ∧ (raise c s).roundCtl = s.roundCtl ∧ (raise c s).channels = s.channels ∧
    (raise c s).journal = s.journal ∧ (raise c s).action = s.action ∧ (raise c s).cycle = s.cycle ∧
    (raise c s).hold = s.hold ∧ (raise c s).request = s.request ∧ (raise c s).port = s.port ∧
    (raise c s).freeCount = s.freeCount ∧ (raise c s).pending = s.pending ∧
    (raise c s).notice.mask = s.notice.mask ∧ (raise c s).notice.reported = s.notice.reported ∧
    (raise c s).notice.pending = s.notice.pending ||| c.mask ∧
    (raise c s).notice.raised = s.notice.raised ||| c.mask := ⟨rfl, rfl, rfl, rfl, rfl, rfl, rfl, rfl, rfl, rfl, rfl,
      rfl, rfl, rfl, rfl, rfl, rfl, rfl⟩

/-- Only the timebase changes. -/
@[simp] theorem timeUpdate_frame (f : Timebase → Timebase) (s : State) :
    (timeUpdate f s).pins = s.pins ∧ (timeUpdate f s).inReset = s.inReset ∧ (timeUpdate f s).profile = s.profile ∧
    (timeUpdate f s).roundCtl = s.roundCtl ∧ (timeUpdate f s).channels = s.channels ∧
    (timeUpdate f s).journal = s.journal ∧ (timeUpdate f s).action = s.action ∧ (timeUpdate f s).cycle = s.cycle ∧
    (timeUpdate f s).hold = s.hold ∧ (timeUpdate f s).request = s.request ∧ (timeUpdate f s).port = s.port ∧
    (timeUpdate f s).notice = s.notice ∧ (timeUpdate f s).freeCount = s.freeCount ∧
    (timeUpdate f s).pending = s.pending ∧ (timeUpdate f s).timebase = f s.timebase := ⟨rfl, rfl, rfl, rfl, rfl, rfl,
      rfl, rfl, rfl, rfl, rfl, rfl, rfl, rfl, rfl⟩

/-- Only the round controller changes. -/
@[simp] theorem roundCtlUpdate_frame (f : RoundCtl → RoundCtl) (s : State) :
    (roundCtlUpdate f s).pins = s.pins ∧ (roundCtlUpdate f s).inReset = s.inReset ∧
    (roundCtlUpdate f s).profile = s.profile ∧ (roundCtlUpdate f s).timebase = s.timebase ∧
    (roundCtlUpdate f s).channels = s.channels ∧ (roundCtlUpdate f s).journal = s.journal ∧
    (roundCtlUpdate f s).action = s.action ∧ (roundCtlUpdate f s).cycle = s.cycle ∧
    (roundCtlUpdate f s).hold = s.hold ∧ (roundCtlUpdate f s).request = s.request ∧
    (roundCtlUpdate f s).port = s.port ∧ (roundCtlUpdate f s).notice = s.notice ∧
    (roundCtlUpdate f s).freeCount = s.freeCount ∧ (roundCtlUpdate f s).pending = s.pending ∧
    (roundCtlUpdate f s).roundCtl = f s.roundCtl := ⟨rfl, rfl, rfl, rfl, rfl, rfl, rfl, rfl, rfl, rfl, rfl, rfl, rfl,
      rfl, rfl⟩

/-- Only the cycle unit changes. -/
@[simp] theorem cycleUpdate_frame (f : CycleUnit → CycleUnit) (s : State) :
    (cycleUpdate f s).pins = s.pins ∧ (cycleUpdate f s).inReset = s.inReset ∧
    (cycleUpdate f s).profile = s.profile ∧ (cycleUpdate f s).timebase = s.timebase ∧
    (cycleUpdate f s).roundCtl = s.roundCtl ∧ (cycleUpdate f s).channels = s.channels ∧
    (cycleUpdate f s).journal = s.journal ∧ (cycleUpdate f s).action = s.action ∧ (cycleUpdate f s).hold = s.hold ∧
    (cycleUpdate f s).request = s.request ∧ (cycleUpdate f s).port = s.port ∧ (cycleUpdate f s).notice = s.notice ∧
    (cycleUpdate f s).freeCount = s.freeCount ∧ (cycleUpdate f s).pending = s.pending ∧
    (cycleUpdate f s).cycle = f s.cycle := ⟨rfl, rfl, rfl, rfl, rfl, rfl, rfl, rfl, rfl, rfl, rfl, rfl, rfl, rfl, rfl⟩

/-- Only the hold unit changes. -/
@[simp] theorem holdUpdate_frame (f : HoldUnit → HoldUnit) (s : State) :
    (holdUpdate f s).pins = s.pins ∧ (holdUpdate f s).inReset = s.inReset ∧ (holdUpdate f s).profile = s.profile ∧
    (holdUpdate f s).timebase = s.timebase ∧ (holdUpdate f s).roundCtl = s.roundCtl ∧
    (holdUpdate f s).channels = s.channels ∧ (holdUpdate f s).journal = s.journal ∧
    (holdUpdate f s).action = s.action ∧ (holdUpdate f s).cycle = s.cycle ∧ (holdUpdate f s).request = s.request ∧
    (holdUpdate f s).port = s.port ∧ (holdUpdate f s).notice = s.notice ∧
    (holdUpdate f s).freeCount = s.freeCount ∧ (holdUpdate f s).pending = s.pending ∧
    (holdUpdate f s).hold = f s.hold := ⟨rfl, rfl, rfl, rfl, rfl, rfl, rfl, rfl, rfl, rfl, rfl, rfl, rfl, rfl, rfl⟩

/-- Only the attach port changes. -/
@[simp] theorem portUpdate_frame (f : Port → Port) (s : State) :
    (portUpdate f s).pins = s.pins ∧ (portUpdate f s).inReset = s.inReset ∧ (portUpdate f s).profile = s.profile ∧
    (portUpdate f s).timebase = s.timebase ∧ (portUpdate f s).roundCtl = s.roundCtl ∧
    (portUpdate f s).channels = s.channels ∧ (portUpdate f s).journal = s.journal ∧
    (portUpdate f s).action = s.action ∧ (portUpdate f s).cycle = s.cycle ∧ (portUpdate f s).hold = s.hold ∧
    (portUpdate f s).request = s.request ∧ (portUpdate f s).notice = s.notice ∧
    (portUpdate f s).freeCount = s.freeCount ∧ (portUpdate f s).pending = s.pending ∧
    (portUpdate f s).port = f s.port := ⟨rfl, rfl, rfl, rfl, rfl, rfl, rfl, rfl, rfl, rfl, rfl, rfl, rfl, rfl, rfl⟩

/-- Only the channel units change. -/
@[simp] theorem channelUpdate_frame (c : Nat) (f : Channel → Channel) (s : State) :
    (channelUpdate c f s).pins = s.pins ∧ (channelUpdate c f s).inReset = s.inReset ∧
    (channelUpdate c f s).profile = s.profile ∧ (channelUpdate c f s).timebase = s.timebase ∧
    (channelUpdate c f s).roundCtl = s.roundCtl ∧ (channelUpdate c f s).journal = s.journal ∧
    (channelUpdate c f s).action = s.action ∧ (channelUpdate c f s).cycle = s.cycle ∧
    (channelUpdate c f s).hold = s.hold ∧ (channelUpdate c f s).request = s.request ∧
    (channelUpdate c f s).port = s.port ∧ (channelUpdate c f s).notice = s.notice ∧
    (channelUpdate c f s).freeCount = s.freeCount ∧ (channelUpdate c f s).pending = s.pending ∧
    (channelUpdate c f s).channels = tableUpdate s.channels c f := ⟨rfl, rfl, rfl, rfl, rfl, rfl, rfl, rfl, rfl, rfl,
      rfl, rfl, rfl, rfl, rfl⟩

/-- Only the send queue changes. -/
@[simp] theorem setQueue_frame (q : List Item) (s : State) :
    (setQueue q s).pins = s.pins ∧ (setQueue q s).inReset = s.inReset ∧ (setQueue q s).profile = s.profile ∧
    (setQueue q s).timebase = s.timebase ∧ (setQueue q s).channels = s.channels ∧
    (setQueue q s).journal = s.journal ∧ (setQueue q s).action = s.action ∧ (setQueue q s).cycle = s.cycle ∧
    (setQueue q s).hold = s.hold ∧ (setQueue q s).request = s.request ∧ (setQueue q s).port = s.port ∧
    (setQueue q s).notice = s.notice ∧ (setQueue q s).freeCount = s.freeCount ∧
    (setQueue q s).pending = s.pending ∧ (setQueue q s).roundCtl.queue = q ∧
    (setQueue q s).roundCtl.inFlight = s.roundCtl.inFlight ∧ (setQueue q s).roundCtl.peers = s.roundCtl.peers ∧
    (setQueue q s).roundCtl.reportDrops = s.roundCtl.reportDrops := ⟨rfl, rfl, rfl, rfl, rfl, rfl, rfl, rfl, rfl,
      rfl, rfl, rfl, rfl, rfl, rfl, rfl, rfl, rfl⟩

/-- Only the place i of the armed list changes. -/
@[simp] theorem setEntry_frame (i : Nat) (e : Option Entry) (s : State) :
    (setEntry i e s).pins = s.pins ∧ (setEntry i e s).inReset = s.inReset ∧ (setEntry i e s).profile = s.profile ∧
    (setEntry i e s).timebase = s.timebase ∧ (setEntry i e s).roundCtl = s.roundCtl ∧
    (setEntry i e s).channels = s.channels ∧ (setEntry i e s).journal = s.journal ∧
    (setEntry i e s).cycle = s.cycle ∧ (setEntry i e s).hold = s.hold ∧ (setEntry i e s).request = s.request ∧
    (setEntry i e s).port = s.port ∧ (setEntry i e s).notice = s.notice ∧
    (setEntry i e s).freeCount = s.freeCount ∧ (setEntry i e s).pending = s.pending ∧
    (setEntry i e s).action.held = s.action.held ∧ (setEntry i e s).action.armSeq = s.action.armSeq ∧
    (setEntry i e s).action.localTag = s.action.localTag ∧
    (setEntry i e s).action.entries = tableUpdate s.action.entries i fun _ => e := ⟨rfl, rfl, rfl, rfl, rfl, rfl,
      rfl, rfl, rfl, rfl, rfl, rfl, rfl, rfl, rfl, rfl, rfl, rfl⟩

/-- Only the place i of the outbound table changes. -/
@[simp] theorem setRecord_frame (i : Nat) (r : Option OutRecord) (s : State) :
    (setRecord i r s).pins = s.pins ∧ (setRecord i r s).inReset = s.inReset ∧
    (setRecord i r s).profile = s.profile ∧ (setRecord i r s).timebase = s.timebase ∧
    (setRecord i r s).roundCtl = s.roundCtl ∧ (setRecord i r s).channels = s.channels ∧
    (setRecord i r s).journal = s.journal ∧ (setRecord i r s).action = s.action ∧
    (setRecord i r s).cycle = s.cycle ∧ (setRecord i r s).hold = s.hold ∧ (setRecord i r s).port = s.port ∧
    (setRecord i r s).notice = s.notice ∧ (setRecord i r s).freeCount = s.freeCount ∧
    (setRecord i r s).pending = s.pending ∧ (setRecord i r s).request.tagCounter = s.request.tagCounter ∧
    (setRecord i r s).request.unsolicited = s.request.unsolicited ∧
    (setRecord i r s).request.table = tableUpdate s.request.table i fun _ => r := ⟨rfl, rfl, rfl, rfl, rfl, rfl, rfl,
      rfl, rfl, rfl, rfl, rfl, rfl, rfl, rfl, rfl, rfl⟩

/-- Only the ring k changes. -/
@[simp] theorem setRing_frame (k : Nat) (r : Ring) (s : State) :
    (setRing k r s).pins = s.pins ∧ (setRing k r s).inReset = s.inReset ∧ (setRing k r s).profile = s.profile ∧
    (setRing k r s).timebase = s.timebase ∧ (setRing k r s).roundCtl = s.roundCtl ∧
    (setRing k r s).channels = s.channels ∧ (setRing k r s).action = s.action ∧ (setRing k r s).cycle = s.cycle ∧
    (setRing k r s).hold = s.hold ∧ (setRing k r s).request = s.request ∧ (setRing k r s).port = s.port ∧
    (setRing k r s).notice = s.notice ∧ (setRing k r s).freeCount = s.freeCount ∧
    (setRing k r s).pending = s.pending ∧ (setRing k r s).journal.mem = s.journal.mem ∧
    (setRing k r s).journal.discarded = s.journal.discarded ∧
    (setRing k r s).journal.rings = tableUpdate s.journal.rings k fun _ => some r := ⟨rfl, rfl, rfl, rfl, rfl, rfl,
      rfl, rfl, rfl, rfl, rfl, rfl, rfl, rfl, rfl, rfl, rfl⟩

/-- Only the rings change. -/
@[simp] theorem clearLossFlags_frame (s : State) :
    (clearLossFlags s).pins = s.pins ∧ (clearLossFlags s).inReset = s.inReset ∧
    (clearLossFlags s).profile = s.profile ∧ (clearLossFlags s).timebase = s.timebase ∧
    (clearLossFlags s).roundCtl = s.roundCtl ∧ (clearLossFlags s).channels = s.channels ∧
    (clearLossFlags s).action = s.action ∧ (clearLossFlags s).cycle = s.cycle ∧ (clearLossFlags s).hold = s.hold ∧
    (clearLossFlags s).request = s.request ∧ (clearLossFlags s).port = s.port ∧
    (clearLossFlags s).notice = s.notice ∧ (clearLossFlags s).freeCount = s.freeCount ∧
    (clearLossFlags s).pending = s.pending ∧ (clearLossFlags s).journal.mem = s.journal.mem ∧
    (clearLossFlags s).journal.discarded = s.journal.discarded := ⟨rfl, rfl, rfl, rfl, rfl, rfl, rfl, rfl, rfl, rfl,
      rfl, rfl, rfl, rfl, rfl, rfl⟩

/-- Only the input lines change. -/
@[simp] theorem setLines_frame (lines : Octet) (hold : Level) (s : State) :
    (setLines lines hold s).inReset = s.inReset ∧ (setLines lines hold s).profile = s.profile ∧
    (setLines lines hold s).timebase = s.timebase ∧ (setLines lines hold s).roundCtl = s.roundCtl ∧
    (setLines lines hold s).channels = s.channels ∧ (setLines lines hold s).journal = s.journal ∧
    (setLines lines hold s).action = s.action ∧ (setLines lines hold s).cycle = s.cycle ∧
    (setLines lines hold s).hold = s.hold ∧ (setLines lines hold s).request = s.request ∧
    (setLines lines hold s).port = s.port ∧ (setLines lines hold s).notice = s.notice ∧
    (setLines lines hold s).freeCount = s.freeCount ∧ (setLines lines hold s).pending = s.pending ∧
    (setLines lines hold s).pins.selLow = s.pins.selLow := ⟨rfl, rfl, rfl, rfl, rfl, rfl, rfl, rfl, rfl, rfl, rfl,
      rfl, rfl, rfl, rfl⟩

/-- What every step of a fold keeps, the fold keeps. -/
theorem foldl_keeps {α β : Type} (g : State → β) {f : State → α → State} (h : ∀ s x, g (f s x) = g s) :
    ∀ (l : List α) (s : State), g (l.foldl f s) = g s
  | [], _ => rfl
  | x :: l, s => (foldl_keeps g h l (f s x)).trans (h s x)

/-- A property that every step of a fold keeps, the fold keeps. -/
theorem foldl_inv {α : Type} {P : State → Prop} {f : State → α → State} (h : ∀ s x, P s → P (f s x)) :
    ∀ (l : List α) (s : State), P s → P (l.foldl f s)
  | [], _, hs => hs
  | x :: l, s, hs => foldl_inv h l (f s x) (h s x hs)

end Sys2Proof.Machine
end

