-- ==== Sys2Proof/Laws/Drive.lean ====
section
/-! SUPPORT. What each operation of the channel units leaves alone. -/

namespace Sys2Proof.Machine

/-- A change of a drive side touches the channel units. -/
@[simp] theorem driveUpdate_frame (c : Nat) (f : Drive → Drive) (s : State) :
    (driveUpdate c f s).pins = s.pins ∧ (driveUpdate c f s).inReset = s.inReset ∧
    (driveUpdate c f s).profile = s.profile ∧ (driveUpdate c f s).timebase = s.timebase ∧
    (driveUpdate c f s).roundCtl = s.roundCtl ∧ (driveUpdate c f s).journal = s.journal ∧
    (driveUpdate c f s).action = s.action ∧ (driveUpdate c f s).cycle = s.cycle ∧
    (driveUpdate c f s).hold = s.hold ∧ (driveUpdate c f s).request = s.request ∧
    (driveUpdate c f s).port = s.port ∧ (driveUpdate c f s).notice = s.notice ∧
    (driveUpdate c f s).freeCount = s.freeCount ∧ (driveUpdate c f s).pending = s.pending := by
  unfold driveUpdate
  split <;> simp

/-- A level-change request touches the channel units (R142). -/
@[simp] theorem requestLevel_frame (c : Nat) (r : LevelReq) (s : State) :
    (requestLevel c r s).pins = s.pins ∧ (requestLevel c r s).inReset = s.inReset ∧
    (requestLevel c r s).profile = s.profile ∧ (requestLevel c r s).timebase = s.timebase ∧
    (requestLevel c r s).roundCtl = s.roundCtl ∧ (requestLevel c r s).journal = s.journal ∧
    (requestLevel c r s).action = s.action ∧ (requestLevel c r s).cycle = s.cycle ∧
    (requestLevel c r s).hold = s.hold ∧ (requestLevel c r s).request = s.request ∧
    (requestLevel c r s).port = s.port ∧ (requestLevel c r s).notice = s.notice ∧
    (requestLevel c r s).freeCount = s.freeCount ∧ (requestLevel c r s).pending = s.pending := by simp [requestLevel]

/-- The force touches the channel units (R146). -/
@[simp] theorem forceAll_frame (s : State) :
    (forceAll s).pins = s.pins ∧ (forceAll s).inReset = s.inReset ∧ (forceAll s).profile = s.profile ∧
    (forceAll s).timebase = s.timebase ∧ (forceAll s).roundCtl = s.roundCtl ∧ (forceAll s).journal = s.journal ∧
    (forceAll s).action = s.action ∧ (forceAll s).cycle = s.cycle ∧ (forceAll s).hold = s.hold ∧
    (forceAll s).request = s.request ∧ (forceAll s).port = s.port ∧ (forceAll s).notice = s.notice ∧
    (forceAll s).freeCount = s.freeCount ∧ (forceAll s).pending = s.pending := by
  unfold forceAll
  exact ⟨foldl_keeps State.pins (fun s x => by simp) _ s, foldl_keeps State.inReset (fun s x => by simp) _ s,
    foldl_keeps State.profile (fun s x => by simp) _ s, foldl_keeps State.timebase (fun s x => by simp) _ s,
    foldl_keeps State.roundCtl (fun s x => by simp) _ s, foldl_keeps State.journal (fun s x => by simp) _ s,
    foldl_keeps State.action (fun s x => by simp) _ s, foldl_keeps State.cycle (fun s x => by simp) _ s,
    foldl_keeps State.hold (fun s x => by simp) _ s, foldl_keeps State.request (fun s x => by simp) _ s,
    foldl_keeps State.port (fun s x => by simp) _ s, foldl_keeps State.notice (fun s x => by simp) _ s,
    foldl_keeps State.freeCount (fun s x => by simp) _ s, foldl_keeps State.pending (fun s x => by simp) _ s⟩

/-- The release touches the channel units (R146). -/
@[simp] theorem releaseAll_frame (s : State) :
    (releaseAll s).pins = s.pins ∧ (releaseAll s).inReset = s.inReset ∧ (releaseAll s).profile = s.profile ∧
    (releaseAll s).timebase = s.timebase ∧ (releaseAll s).roundCtl = s.roundCtl ∧
    (releaseAll s).journal = s.journal ∧ (releaseAll s).action = s.action ∧ (releaseAll s).cycle = s.cycle ∧
    (releaseAll s).hold = s.hold ∧ (releaseAll s).request = s.request ∧ (releaseAll s).port = s.port ∧
    (releaseAll s).notice = s.notice ∧ (releaseAll s).freeCount = s.freeCount ∧ (releaseAll s).pending = s.pending := by
  unfold releaseAll
  exact ⟨foldl_keeps State.pins (fun s x => by simp) _ s, foldl_keeps State.inReset (fun s x => by simp) _ s,
    foldl_keeps State.profile (fun s x => by simp) _ s, foldl_keeps State.timebase (fun s x => by simp) _ s,
    foldl_keeps State.roundCtl (fun s x => by simp) _ s, foldl_keeps State.journal (fun s x => by simp) _ s,
    foldl_keeps State.action (fun s x => by simp) _ s, foldl_keeps State.cycle (fun s x => by simp) _ s,
    foldl_keeps State.hold (fun s x => by simp) _ s, foldl_keeps State.request (fun s x => by simp) _ s,
    foldl_keeps State.port (fun s x => by simp) _ s, foldl_keeps State.notice (fun s x => by simp) _ s,
    foldl_keeps State.freeCount (fun s x => by simp) _ s, foldl_keeps State.pending (fun s x => by simp) _ s⟩

/-- A sample touches the channel units (R64). -/
@[simp] theorem sampleChannel_frame (c : Nat) (cfg : CaptureCfg) (s : State) :
    (sampleChannel c cfg s).pins = s.pins ∧ (sampleChannel c cfg s).inReset = s.inReset ∧
    (sampleChannel c cfg s).profile = s.profile ∧ (sampleChannel c cfg s).timebase = s.timebase ∧
    (sampleChannel c cfg s).roundCtl = s.roundCtl ∧ (sampleChannel c cfg s).journal = s.journal ∧
    (sampleChannel c cfg s).action = s.action ∧ (sampleChannel c cfg s).cycle = s.cycle ∧
    (sampleChannel c cfg s).hold = s.hold ∧ (sampleChannel c cfg s).request = s.request ∧
    (sampleChannel c cfg s).port = s.port ∧ (sampleChannel c cfg s).notice = s.notice ∧
    (sampleChannel c cfg s).freeCount = s.freeCount ∧ (sampleChannel c cfg s).pending = s.pending := by simp [sampleChannel]

/-- A reference period of a channel touches the channel units (R63). -/
@[simp] theorem capturePeriod_frame (c : Nat) (s : State) :
    (capturePeriod s c).pins = s.pins ∧ (capturePeriod s c).inReset = s.inReset ∧
    (capturePeriod s c).profile = s.profile ∧ (capturePeriod s c).timebase = s.timebase ∧
    (capturePeriod s c).roundCtl = s.roundCtl ∧ (capturePeriod s c).journal = s.journal ∧
    (capturePeriod s c).action = s.action ∧ (capturePeriod s c).cycle = s.cycle ∧
    (capturePeriod s c).hold = s.hold ∧ (capturePeriod s c).request = s.request ∧
    (capturePeriod s c).port = s.port ∧ (capturePeriod s c).notice = s.notice ∧
    (capturePeriod s c).freeCount = s.freeCount ∧ (capturePeriod s c).pending = s.pending := by
  unfold capturePeriod
  repeat' split
  all_goals simp

/-- A channel unit at START touches the channel units (R73, R141). -/
@[simp] theorem startChannel_frame (c : Nat) (s : State) :
    (startChannel s c).pins = s.pins ∧ (startChannel s c).inReset = s.inReset ∧
    (startChannel s c).profile = s.profile ∧ (startChannel s c).timebase = s.timebase ∧
    (startChannel s c).roundCtl = s.roundCtl ∧ (startChannel s c).journal = s.journal ∧
    (startChannel s c).action = s.action ∧ (startChannel s c).cycle = s.cycle ∧ (startChannel s c).hold = s.hold ∧
    (startChannel s c).request = s.request ∧ (startChannel s c).port = s.port ∧
    (startChannel s c).notice = s.notice ∧ (startChannel s c).freeCount = s.freeCount ∧
    (startChannel s c).pending = s.pending := by
  unfold startChannel
  split <;> simp

/-- An adoption that comes before samples touches the channel units (R65). -/
@[simp] theorem sampledAfterAdoption_frame (a : Octet) (s : State) :
    (sampledAfterAdoption a s).pins = s.pins ∧
    (sampledAfterAdoption a s).inReset = s.inReset ∧
    (sampledAfterAdoption a s).profile = s.profile ∧
    (sampledAfterAdoption a s).timebase = s.timebase ∧
    (sampledAfterAdoption a s).roundCtl = s.roundCtl ∧
    (sampledAfterAdoption a s).journal = s.journal ∧
    (sampledAfterAdoption a s).action = s.action ∧
    (sampledAfterAdoption a s).cycle = s.cycle ∧
    (sampledAfterAdoption a s).hold = s.hold ∧
    (sampledAfterAdoption a s).request = s.request ∧
    (sampledAfterAdoption a s).port = s.port ∧
    (sampledAfterAdoption a s).notice = s.notice ∧
    (sampledAfterAdoption a s).freeCount = s.freeCount ∧
    (sampledAfterAdoption a s).pending = s.pending :=
  ⟨rfl, rfl, rfl, rfl, rfl, rfl, rfl, rfl, rfl, rfl, rfl, rfl, rfl, rfl⟩

end Sys2Proof.Machine
end

