-- ==== Sys2Proof/Laws/Journal.lean ====
section
/-! SUPPORT. What each operation of the journal unit leaves alone. -/

namespace Sys2Proof.Machine

/-- A write touches the journal and the notices (R82, R85). -/
@[simp] theorem writeRecord_frame (k : Nat) (r : Ring) (o : Nat → List Octet) (s : State) :
    (writeRecord k r o s).pins = s.pins ∧ (writeRecord k r o s).inReset = s.inReset ∧
    (writeRecord k r o s).profile = s.profile ∧ (writeRecord k r o s).timebase = s.timebase ∧
    (writeRecord k r o s).roundCtl = s.roundCtl ∧ (writeRecord k r o s).channels = s.channels ∧
    (writeRecord k r o s).action = s.action ∧ (writeRecord k r o s).cycle = s.cycle ∧
    (writeRecord k r o s).hold = s.hold ∧ (writeRecord k r o s).request = s.request ∧
    (writeRecord k r o s).port = s.port ∧ (writeRecord k r o s).freeCount = s.freeCount ∧
    (writeRecord k r o s).pending = s.pending := by
  simp only [writeRecord]
  split <;> simp

/-- A drop touches the journal and the notices (R83). -/
@[simp] theorem dropRecord_frame (k : Nat) (r : Ring) (s : State) :
    (dropRecord k r s).pins = s.pins ∧ (dropRecord k r s).inReset = s.inReset ∧
    (dropRecord k r s).profile = s.profile ∧ (dropRecord k r s).timebase = s.timebase ∧
    (dropRecord k r s).roundCtl = s.roundCtl ∧ (dropRecord k r s).channels = s.channels ∧
    (dropRecord k r s).action = s.action ∧ (dropRecord k r s).cycle = s.cycle ∧ (dropRecord k r s).hold = s.hold ∧
    (dropRecord k r s).request = s.request ∧ (dropRecord k r s).port = s.port ∧
    (dropRecord k r s).freeCount = s.freeCount ∧ (dropRecord k r s).pending = s.pending := by
  simp only [dropRecord]
  split <;> simp

/-- Taking a record touches the journal and the notices. -/
@[simp] theorem takeRecord_frame (k : Nat) (o : Nat → List Octet) (s : State) :
    (takeRecord k o s).pins = s.pins ∧ (takeRecord k o s).inReset = s.inReset ∧
    (takeRecord k o s).profile = s.profile ∧ (takeRecord k o s).timebase = s.timebase ∧
    (takeRecord k o s).roundCtl = s.roundCtl ∧ (takeRecord k o s).channels = s.channels ∧
    (takeRecord k o s).action = s.action ∧ (takeRecord k o s).cycle = s.cycle ∧ (takeRecord k o s).hold = s.hold ∧
    (takeRecord k o s).request = s.request ∧ (takeRecord k o s).port = s.port ∧
    (takeRecord k o s).freeCount = s.freeCount ∧ (takeRecord k o s).pending = s.pending := by
  unfold takeRecord
  repeat' split
  all_goals simp

/-- A local mark touches the journal and the notices (R79). -/
@[simp] theorem journalLocalMark_frame (k : Option Nat) (m : Mark) (s : State) :
    (journalLocalMark k m s).pins = s.pins ∧ (journalLocalMark k m s).inReset = s.inReset ∧
    (journalLocalMark k m s).profile = s.profile ∧ (journalLocalMark k m s).timebase = s.timebase ∧
    (journalLocalMark k m s).roundCtl = s.roundCtl ∧ (journalLocalMark k m s).channels = s.channels ∧
    (journalLocalMark k m s).action = s.action ∧ (journalLocalMark k m s).cycle = s.cycle ∧
    (journalLocalMark k m s).hold = s.hold ∧ (journalLocalMark k m s).request = s.request ∧
    (journalLocalMark k m s).port = s.port ∧ (journalLocalMark k m s).freeCount = s.freeCount ∧
    (journalLocalMark k m s).pending = s.pending := by
  unfold journalLocalMark
  split <;> simp

/-- A peer mark touches the journal and the notices (R80). -/
@[simp] theorem journalPeerMark_frame (m : Mark) (s : State) :
    (journalPeerMark m s).pins = s.pins ∧ (journalPeerMark m s).inReset = s.inReset ∧
    (journalPeerMark m s).profile = s.profile ∧ (journalPeerMark m s).timebase = s.timebase ∧
    (journalPeerMark m s).roundCtl = s.roundCtl ∧ (journalPeerMark m s).channels = s.channels ∧
    (journalPeerMark m s).action = s.action ∧ (journalPeerMark m s).cycle = s.cycle ∧
    (journalPeerMark m s).hold = s.hold ∧ (journalPeerMark m s).request = s.request ∧
    (journalPeerMark m s).port = s.port ∧ (journalPeerMark m s).freeCount = s.freeCount ∧
    (journalPeerMark m s).pending = s.pending := by
  unfold journalPeerMark
  exact ⟨foldl_keeps State.pins (fun s x => by split <;> simp) _ s,
    foldl_keeps State.inReset (fun s x => by split <;> simp) _ s,
    foldl_keeps State.profile (fun s x => by split <;> simp) _ s,
    foldl_keeps State.timebase (fun s x => by split <;> simp) _ s,
    foldl_keeps State.roundCtl (fun s x => by split <;> simp) _ s,
    foldl_keeps State.channels (fun s x => by split <;> simp) _ s,
    foldl_keeps State.action (fun s x => by split <;> simp) _ s,
    foldl_keeps State.cycle (fun s x => by split <;> simp) _ s,
    foldl_keeps State.hold (fun s x => by split <;> simp) _ s,
    foldl_keeps State.request (fun s x => by split <;> simp) _ s,
    foldl_keeps State.port (fun s x => by split <;> simp) _ s,
    foldl_keeps State.freeCount (fun s x => by split <;> simp) _ s,
    foldl_keeps State.pending (fun s x => by split <;> simp) _ s⟩

/-- A report touches the journal and the notices (R81). -/
@[simp] theorem journalReport_frame (r : ReportRecord) (s : State) :
    (journalReport r s).pins = s.pins ∧ (journalReport r s).inReset = s.inReset ∧
    (journalReport r s).profile = s.profile ∧ (journalReport r s).timebase = s.timebase ∧
    (journalReport r s).roundCtl = s.roundCtl ∧ (journalReport r s).channels = s.channels ∧
    (journalReport r s).action = s.action ∧ (journalReport r s).cycle = s.cycle ∧
    (journalReport r s).hold = s.hold ∧ (journalReport r s).request = s.request ∧
    (journalReport r s).port = s.port ∧ (journalReport r s).freeCount = s.freeCount ∧
    (journalReport r s).pending = s.pending := by
  simp only [journalReport]
  repeat' split
  all_goals simp

end Sys2Proof.Machine
end

