-- ==== Sys2Proof/Laws/SendQueue.lean ====
section
/-! SUPPORT. What each operation of the send queue leaves alone. -/

namespace Sys2Proof.Machine

/-- An offer of a REPORT item touches the round controller and the notices (R42). -/
@[simp] theorem offerReport_frame (r : ReportItem) (s : State) :
    (offerReport r s).pins = s.pins ∧ (offerReport r s).inReset = s.inReset ∧
    (offerReport r s).profile = s.profile ∧ (offerReport r s).timebase = s.timebase ∧
    (offerReport r s).channels = s.channels ∧ (offerReport r s).journal = s.journal ∧
    (offerReport r s).action = s.action ∧ (offerReport r s).cycle = s.cycle ∧ (offerReport r s).hold = s.hold ∧
    (offerReport r s).request = s.request ∧ (offerReport r s).port = s.port ∧
    (offerReport r s).freeCount = s.freeCount ∧ (offerReport r s).pending = s.pending := by
  unfold offerReport
  split <;> simp

/-- An offer of a MARK item touches the send queue, the channel that offers and the notices (R42, R70). -/
@[simp] theorem offerMark_frame (c : Nat) (m : Mark) (s : State) :
    (offerMark c m s).pins = s.pins ∧ (offerMark c m s).inReset = s.inReset ∧
    (offerMark c m s).profile = s.profile ∧ (offerMark c m s).timebase = s.timebase ∧
    (offerMark c m s).journal = s.journal ∧ (offerMark c m s).action = s.action ∧
    (offerMark c m s).cycle = s.cycle ∧ (offerMark c m s).hold = s.hold ∧ (offerMark c m s).request = s.request ∧
    (offerMark c m s).port = s.port ∧ (offerMark c m s).freeCount = s.freeCount ∧
    (offerMark c m s).pending = s.pending := by
  unfold offerMark
  split <;> simp

/-- The purge touches the round controller (R57). -/
@[simp] theorem purgeQueue_frame (s : State) :
    (purgeQueue s).pins = s.pins ∧ (purgeQueue s).inReset = s.inReset ∧ (purgeQueue s).profile = s.profile ∧
    (purgeQueue s).timebase = s.timebase ∧ (purgeQueue s).channels = s.channels ∧
    (purgeQueue s).journal = s.journal ∧ (purgeQueue s).action = s.action ∧ (purgeQueue s).cycle = s.cycle ∧
    (purgeQueue s).hold = s.hold ∧ (purgeQueue s).request = s.request ∧ (purgeQueue s).port = s.port ∧
    (purgeQueue s).notice = s.notice ∧ (purgeQueue s).freeCount = s.freeCount ∧ (purgeQueue s).pending = s.pending :=
      by simp [purgeQueue]

end Sys2Proof.Machine
end

