-- ==== Sys2Proof/Laws/Actions.lean ====
section
/-! SUPPORT. What each operation of the action unit leaves alone. -/

namespace Sys2Proof.Machine

/-- The ending of an entry touches the armed list and where its outcome goes (R93, R117, R118). -/
@[simp] theorem endEntry_frame (i : Nat) (code : Octet) (d : Option Word16) (s : State) :
    (endEntry i code d s).pins = s.pins ∧ (endEntry i code d s).inReset = s.inReset ∧
    (endEntry i code d s).profile = s.profile ∧ (endEntry i code d s).timebase = s.timebase ∧
    (endEntry i code d s).channels = s.channels ∧ (endEntry i code d s).cycle = s.cycle ∧
    (endEntry i code d s).hold = s.hold ∧ (endEntry i code d s).request = s.request ∧
    (endEntry i code d s).port = s.port ∧ (endEntry i code d s).freeCount = s.freeCount ∧
    (endEntry i code d s).pending = s.pending := by
  simp only [endEntry]
  repeat' split
  all_goals simp

/-- A completion touches what the ending of an entry touches (R104). -/
@[simp] theorem completeFire_frame (i : Nat) (e : Entry) (due : NT) (s : State) :
    (completeFire i e due s).pins = s.pins ∧ (completeFire i e due s).inReset = s.inReset ∧
    (completeFire i e due s).profile = s.profile ∧ (completeFire i e due s).timebase = s.timebase ∧
    (completeFire i e due s).channels = s.channels ∧ (completeFire i e due s).cycle = s.cycle ∧
    (completeFire i e due s).hold = s.hold ∧ (completeFire i e due s).request = s.request ∧
    (completeFire i e due s).port = s.port ∧ (completeFire i e due s).freeCount = s.freeCount ∧
    (completeFire i e due s).pending = s.pending := by
  simp only [completeFire]
  repeat' split
  all_goals simp

/-- A fire touches, beside that, the channel units (R102). -/
@[simp] theorem fireEntry_frame (i : Nat) (e : Entry) (due : NT) (s : State) :
    (fireEntry i e due s).pins = s.pins ∧ (fireEntry i e due s).inReset = s.inReset ∧
    (fireEntry i e due s).profile = s.profile ∧ (fireEntry i e due s).timebase = s.timebase ∧
    (fireEntry i e due s).cycle = s.cycle ∧ (fireEntry i e due s).hold = s.hold ∧
    (fireEntry i e due s).request = s.request ∧ (fireEntry i e due s).port = s.port ∧
    (fireEntry i e due s).freeCount = s.freeCount ∧ (fireEntry i e due s).pending = s.pending := by
  simp only [fireEntry]
  repeat' split
  all_goals simp

/-- FIRE touches what a fire touches. -/
@[simp] theorem takeFire_frame (s : State) :
    (takeFire s).pins = s.pins ∧ (takeFire s).inReset = s.inReset ∧ (takeFire s).profile = s.profile ∧
    (takeFire s).timebase = s.timebase ∧ (takeFire s).cycle = s.cycle ∧ (takeFire s).hold = s.hold ∧
    (takeFire s).request = s.request ∧ (takeFire s).port = s.port ∧ (takeFire s).freeCount = s.freeCount ∧
    (takeFire s).pending = s.pending := by
  unfold takeFire
  split <;> simp

/-- A pulse end touches what a fire touches (R103). -/
@[simp] theorem endPulse_frame (i : Nat) (e : Entry) (t : NT) (b : Bool) (s : State) :
    (endPulse i e t b s).pins = s.pins ∧ (endPulse i e t b s).inReset = s.inReset ∧
    (endPulse i e t b s).profile = s.profile ∧ (endPulse i e t b s).timebase = s.timebase ∧
    (endPulse i e t b s).cycle = s.cycle ∧ (endPulse i e t b s).hold = s.hold ∧
    (endPulse i e t b s).request = s.request ∧ (endPulse i e t b s).port = s.port ∧
    (endPulse i e t b s).freeCount = s.freeCount ∧ (endPulse i e t b s).pending = s.pending := by
  simp only [endPulse]
  repeat' split
  all_goals simp

/-- PULSE_END touches what a fire touches. -/
@[simp] theorem takePulseEnd_frame (i : Nat) (s : State) :
    (takePulseEnd i s).pins = s.pins ∧ (takePulseEnd i s).inReset = s.inReset ∧
    (takePulseEnd i s).profile = s.profile ∧ (takePulseEnd i s).timebase = s.timebase ∧
    (takePulseEnd i s).cycle = s.cycle ∧ (takePulseEnd i s).hold = s.hold ∧
    (takePulseEnd i s).request = s.request ∧ (takePulseEnd i s).port = s.port ∧
    (takePulseEnd i s).freeCount = s.freeCount ∧ (takePulseEnd i s).pending = s.pending := by
  unfold takePulseEnd
  repeat' split
  all_goals simp

/-- EXPIRY touches what the ending of an entry touches (R105). -/
@[simp] theorem takeExpiry_frame (i : Nat) (s : State) :
    (takeExpiry i s).pins = s.pins ∧ (takeExpiry i s).inReset = s.inReset ∧ (takeExpiry i s).profile = s.profile ∧
    (takeExpiry i s).timebase = s.timebase ∧ (takeExpiry i s).channels = s.channels ∧
    (takeExpiry i s).cycle = s.cycle ∧ (takeExpiry i s).hold = s.hold ∧ (takeExpiry i s).request = s.request ∧
    (takeExpiry i s).port = s.port ∧ (takeExpiry i s).freeCount = s.freeCount ∧
    (takeExpiry i s).pending = s.pending := by
  unfold takeExpiry
  repeat' split
  all_goals simp

/-- A match touches what the ending of an entry touches (R107). -/
@[simp] theorem matchEntry_frame (m : Mark) (i : Nat) (s : State) :
    (matchEntry m i s).pins = s.pins ∧ (matchEntry m i s).inReset = s.inReset ∧
    (matchEntry m i s).profile = s.profile ∧ (matchEntry m i s).timebase = s.timebase ∧
    (matchEntry m i s).channels = s.channels ∧ (matchEntry m i s).cycle = s.cycle ∧
    (matchEntry m i s).hold = s.hold ∧ (matchEntry m i s).request = s.request ∧ (matchEntry m i s).port = s.port ∧
    (matchEntry m i s).freeCount = s.freeCount ∧ (matchEntry m i s).pending = s.pending := by
  simp only [matchEntry]
  repeat' split
  all_goals simp

/-- The matcher touches what the ending of an entry touches (R106). -/
@[simp] theorem takeMark_frame (m : Mark) (s : State) :
    (takeMark m s).pins = s.pins ∧ (takeMark m s).inReset = s.inReset ∧ (takeMark m s).profile = s.profile ∧
    (takeMark m s).timebase = s.timebase ∧ (takeMark m s).channels = s.channels ∧ (takeMark m s).cycle = s.cycle ∧
    (takeMark m s).hold = s.hold ∧ (takeMark m s).request = s.request ∧ (takeMark m s).port = s.port ∧
    (takeMark m s).freeCount = s.freeCount ∧ (takeMark m s).pending = s.pending := by
  unfold takeMark
  exact ⟨foldl_keeps State.pins (fun s x => by simp) _ s, foldl_keeps State.inReset (fun s x => by simp) _ s,
    foldl_keeps State.profile (fun s x => by simp) _ s, foldl_keeps State.timebase (fun s x => by simp) _ s,
    foldl_keeps State.channels (fun s x => by simp) _ s, foldl_keeps State.cycle (fun s x => by simp) _ s,
    foldl_keeps State.hold (fun s x => by simp) _ s, foldl_keeps State.request (fun s x => by simp) _ s,
    foldl_keeps State.port (fun s x => by simp) _ s, foldl_keeps State.freeCount (fun s x => by simp) _ s,
    foldl_keeps State.pending (fun s x => by simp) _ s⟩

/-- A new entry touches the action unit (R98). -/
@[simp] theorem createEntry_frame (i o : Nat) (t : Octet) (c : Nat) (f : ArmFields) (s : State) :
    (createEntry i o t c f s).pins = s.pins ∧ (createEntry i o t c f s).inReset = s.inReset ∧
    (createEntry i o t c f s).profile = s.profile ∧ (createEntry i o t c f s).timebase = s.timebase ∧
    (createEntry i o t c f s).roundCtl = s.roundCtl ∧ (createEntry i o t c f s).channels = s.channels ∧
    (createEntry i o t c f s).journal = s.journal ∧ (createEntry i o t c f s).cycle = s.cycle ∧
    (createEntry i o t c f s).hold = s.hold ∧ (createEntry i o t c f s).request = s.request ∧
    (createEntry i o t c f s).port = s.port ∧ (createEntry i o t c f s).notice = s.notice ∧
    (createEntry i o t c f s).freeCount = s.freeCount ∧ (createEntry i o t c f s).pending = s.pending := by simp [createEntry]

/-- A remote arm touches the action unit (R99). -/
@[simp] theorem armRemotely_frame (o : Nat) (t : Octet) (c : Nat) (f : ArmFields) (s : State) :
    ((armRemotely o t c f s).1).pins = s.pins ∧ ((armRemotely o t c f s).1).inReset = s.inReset ∧
    ((armRemotely o t c f s).1).profile = s.profile ∧ ((armRemotely o t c f s).1).timebase = s.timebase ∧
    ((armRemotely o t c f s).1).roundCtl = s.roundCtl ∧ ((armRemotely o t c f s).1).channels = s.channels ∧
    ((armRemotely o t c f s).1).journal = s.journal ∧ ((armRemotely o t c f s).1).cycle = s.cycle ∧
    ((armRemotely o t c f s).1).hold = s.hold ∧ ((armRemotely o t c f s).1).request = s.request ∧
    ((armRemotely o t c f s).1).port = s.port ∧ ((armRemotely o t c f s).1).notice = s.notice ∧
    ((armRemotely o t c f s).1).freeCount = s.freeCount ∧ ((armRemotely o t c f s).1).pending = s.pending := by
  unfold armRemotely
  repeat' split
  all_goals simp

/-- A local arm touches the action unit (R98). -/
@[simp] theorem armLocally_frame (i c : Nat) (f : ArmFields) (s : State) :
    ((armLocally i c f s).1).pins = s.pins ∧ ((armLocally i c f s).1).inReset = s.inReset ∧
    ((armLocally i c f s).1).profile = s.profile ∧ ((armLocally i c f s).1).timebase = s.timebase ∧
    ((armLocally i c f s).1).roundCtl = s.roundCtl ∧ ((armLocally i c f s).1).channels = s.channels ∧
    ((armLocally i c f s).1).journal = s.journal ∧ ((armLocally i c f s).1).cycle = s.cycle ∧
    ((armLocally i c f s).1).hold = s.hold ∧ ((armLocally i c f s).1).request = s.request ∧
    ((armLocally i c f s).1).port = s.port ∧ ((armLocally i c f s).1).notice = s.notice ∧
    ((armLocally i c f s).1).freeCount = s.freeCount ∧ ((armLocally i c f s).1).pending = s.pending := by simp [armLocally]

/-- A cancel touches what the ending of an entry touches (R110). -/
@[simp] theorem cancelEntry_frame (i : Nat) (s : State) :
    (cancelEntry i s).pins = s.pins ∧ (cancelEntry i s).inReset = s.inReset ∧
    (cancelEntry i s).profile = s.profile ∧ (cancelEntry i s).timebase = s.timebase ∧
    (cancelEntry i s).channels = s.channels ∧ (cancelEntry i s).cycle = s.cycle ∧ (cancelEntry i s).hold = s.hold ∧
    (cancelEntry i s).request = s.request ∧ (cancelEntry i s).port = s.port ∧
    (cancelEntry i s).freeCount = s.freeCount ∧ (cancelEntry i s).pending = s.pending := by
  unfold cancelEntry
  repeat' split
  all_goals simp

/-- The entry into HELD touches what the ending of an entry touches (R113). -/
@[simp] theorem actionEntersHeld_frame (s : State) :
    (actionEntersHeld s).pins = s.pins ∧ (actionEntersHeld s).inReset = s.inReset ∧
    (actionEntersHeld s).profile = s.profile ∧ (actionEntersHeld s).timebase = s.timebase ∧
    (actionEntersHeld s).channels = s.channels ∧ (actionEntersHeld s).cycle = s.cycle ∧
    (actionEntersHeld s).hold = s.hold ∧ (actionEntersHeld s).request = s.request ∧
    (actionEntersHeld s).port = s.port ∧ (actionEntersHeld s).freeCount = s.freeCount ∧
    (actionEntersHeld s).pending = s.pending := ⟨foldl_keeps State.pins (fun s x => by simp) _ _,
      foldl_keeps State.inReset (fun s x => by simp) _ _, foldl_keeps State.profile (fun s x => by simp) _ _,
      foldl_keeps State.timebase (fun s x => by simp) _ _, foldl_keeps State.channels (fun s x => by simp) _ _,
      foldl_keeps State.cycle (fun s x => by simp) _ _, foldl_keeps State.hold (fun s x => by simp) _ _,
      foldl_keeps State.request (fun s x => by simp) _ _, foldl_keeps State.port (fun s x => by simp) _ _,
      foldl_keeps State.freeCount (fun s x => by simp) _ _, foldl_keeps State.pending (fun s x => by simp) _ _⟩

/-- The leaving of HELD touches the action unit (R115). -/
@[simp] theorem actionLeavesHeld_frame (s : State) :
    (actionLeavesHeld s).pins = s.pins ∧ (actionLeavesHeld s).inReset = s.inReset ∧
    (actionLeavesHeld s).profile = s.profile ∧ (actionLeavesHeld s).timebase = s.timebase ∧
    (actionLeavesHeld s).roundCtl = s.roundCtl ∧ (actionLeavesHeld s).channels = s.channels ∧
    (actionLeavesHeld s).journal = s.journal ∧ (actionLeavesHeld s).cycle = s.cycle ∧
    (actionLeavesHeld s).hold = s.hold ∧ (actionLeavesHeld s).request = s.request ∧
    (actionLeavesHeld s).port = s.port ∧ (actionLeavesHeld s).notice = s.notice ∧
    (actionLeavesHeld s).freeCount = s.freeCount ∧ (actionLeavesHeld s).pending = s.pending := by simp [actionLeavesHeld]

end Sys2Proof.Machine
end

