-- ==== Sys2Proof/Laws/Cycle.lean ====
section
/-! SUPPORT. What each operation of the cycle unit leaves alone. -/

namespace Sys2Proof.Machine

/-- A cyclic fire touches the cycle unit and the channel units (R128). -/
@[simp] theorem fireCyclic_frame (d : CyclicDue) (s : State) :
    (fireCyclic d s).pins = s.pins ∧ (fireCyclic d s).inReset = s.inReset ∧ (fireCyclic d s).profile = s.profile ∧
    (fireCyclic d s).timebase = s.timebase ∧ (fireCyclic d s).roundCtl = s.roundCtl ∧
    (fireCyclic d s).journal = s.journal ∧ (fireCyclic d s).action = s.action ∧ (fireCyclic d s).hold = s.hold ∧
    (fireCyclic d s).request = s.request ∧ (fireCyclic d s).port = s.port ∧ (fireCyclic d s).notice = s.notice ∧
    (fireCyclic d s).freeCount = s.freeCount ∧ (fireCyclic d s).pending = s.pending := by
  simp only [fireCyclic]
  repeat' split
  all_goals simp

/-- CYCLIC_FIRE touches the cycle unit and the channel units. -/
@[simp] theorem takeCyclicFire_frame (s : State) :
    (takeCyclicFire s).pins = s.pins ∧ (takeCyclicFire s).inReset = s.inReset ∧
    (takeCyclicFire s).profile = s.profile ∧ (takeCyclicFire s).timebase = s.timebase ∧
    (takeCyclicFire s).roundCtl = s.roundCtl ∧ (takeCyclicFire s).journal = s.journal ∧
    (takeCyclicFire s).action = s.action ∧ (takeCyclicFire s).hold = s.hold ∧
    (takeCyclicFire s).request = s.request ∧ (takeCyclicFire s).port = s.port ∧
    (takeCyclicFire s).notice = s.notice ∧ (takeCyclicFire s).freeCount = s.freeCount ∧
    (takeCyclicFire s).pending = s.pending := by
  unfold takeCyclicFire
  split <;> simp

/-- The due fires touch the cycle unit and the channel units (R127). -/
@[simp] theorem takeDueCyclic_frame (s : State) :
    (takeDueCyclic s).pins = s.pins ∧ (takeDueCyclic s).inReset = s.inReset ∧
    (takeDueCyclic s).profile = s.profile ∧ (takeDueCyclic s).timebase = s.timebase ∧
    (takeDueCyclic s).roundCtl = s.roundCtl ∧ (takeDueCyclic s).journal = s.journal ∧
    (takeDueCyclic s).action = s.action ∧ (takeDueCyclic s).hold = s.hold ∧ (takeDueCyclic s).request = s.request ∧
    (takeDueCyclic s).port = s.port ∧ (takeDueCyclic s).notice = s.notice ∧
    (takeDueCyclic s).freeCount = s.freeCount ∧ (takeDueCyclic s).pending = s.pending := by
  unfold takeDueCyclic
  exact ⟨foldl_keeps State.pins (fun s x => by simp) _ s, foldl_keeps State.inReset (fun s x => by simp) _ s,
    foldl_keeps State.profile (fun s x => by simp) _ s, foldl_keeps State.timebase (fun s x => by simp) _ s,
    foldl_keeps State.roundCtl (fun s x => by simp) _ s, foldl_keeps State.journal (fun s x => by simp) _ s,
    foldl_keeps State.action (fun s x => by simp) _ s, foldl_keeps State.hold (fun s x => by simp) _ s,
    foldl_keeps State.request (fun s x => by simp) _ s, foldl_keeps State.port (fun s x => by simp) _ s,
    foldl_keeps State.notice (fun s x => by simp) _ s, foldl_keeps State.freeCount (fun s x => by simp) _ s,
    foldl_keeps State.pending (fun s x => by simp) _ s⟩

/-- The due fires at offset 0 touch the cycle unit and the channel units (R157). -/
@[simp] theorem takeOffsetZero_frame (n : Nat) (s : State) :
    (takeOffsetZero n s).pins = s.pins ∧ (takeOffsetZero n s).inReset = s.inReset ∧
    (takeOffsetZero n s).profile = s.profile ∧ (takeOffsetZero n s).timebase = s.timebase ∧
    (takeOffsetZero n s).roundCtl = s.roundCtl ∧ (takeOffsetZero n s).journal = s.journal ∧
    (takeOffsetZero n s).action = s.action ∧ (takeOffsetZero n s).hold = s.hold ∧ (takeOffsetZero n s).request = s.request ∧
    (takeOffsetZero n s).port = s.port ∧ (takeOffsetZero n s).notice = s.notice ∧
    (takeOffsetZero n s).freeCount = s.freeCount ∧ (takeOffsetZero n s).pending = s.pending := by
  unfold takeOffsetZero
  exact ⟨foldl_keeps State.pins (fun s x => by simp) _ s, foldl_keeps State.inReset (fun s x => by simp) _ s,
    foldl_keeps State.profile (fun s x => by simp) _ s, foldl_keeps State.timebase (fun s x => by simp) _ s,
    foldl_keeps State.roundCtl (fun s x => by simp) _ s, foldl_keeps State.journal (fun s x => by simp) _ s,
    foldl_keeps State.action (fun s x => by simp) _ s, foldl_keeps State.hold (fun s x => by simp) _ s,
    foldl_keeps State.request (fun s x => by simp) _ s, foldl_keeps State.port (fun s x => by simp) _ s,
    foldl_keeps State.notice (fun s x => by simp) _ s, foldl_keeps State.freeCount (fun s x => by simp) _ s,
    foldl_keeps State.pending (fun s x => by simp) _ s⟩

/-- CYCLIC_PULSE_END touches the cycle unit and the channel units (R129). -/
@[simp] theorem takeCyclicEnd_frame (p : Nat) (s : State) :
    (takeCyclicEnd p s).pins = s.pins ∧ (takeCyclicEnd p s).inReset = s.inReset ∧
    (takeCyclicEnd p s).profile = s.profile ∧ (takeCyclicEnd p s).timebase = s.timebase ∧
    (takeCyclicEnd p s).roundCtl = s.roundCtl ∧ (takeCyclicEnd p s).journal = s.journal ∧
    (takeCyclicEnd p s).action = s.action ∧ (takeCyclicEnd p s).hold = s.hold ∧
    (takeCyclicEnd p s).request = s.request ∧ (takeCyclicEnd p s).port = s.port ∧
    (takeCyclicEnd p s).notice = s.notice ∧ (takeCyclicEnd p s).freeCount = s.freeCount ∧
    (takeCyclicEnd p s).pending = s.pending := by
  unfold takeCyclicEnd
  repeat' split
  all_goals simp

/-- A proposal touches the cycle unit and the notices (R133). -/
@[simp] theorem propose_frame (r : Word16) (s : State) :
    (propose r s).pins = s.pins ∧ (propose r s).inReset = s.inReset ∧ (propose r s).profile = s.profile ∧
    (propose r s).timebase = s.timebase ∧ (propose r s).roundCtl = s.roundCtl ∧
    (propose r s).channels = s.channels ∧ (propose r s).journal = s.journal ∧ (propose r s).action = s.action ∧
    (propose r s).hold = s.hold ∧ (propose r s).request = s.request ∧ (propose r s).port = s.port ∧
    (propose r s).freeCount = s.freeCount ∧ (propose r s).pending = s.pending := by
  unfold propose
  repeat' split
  all_goals simp

/-- The swap touches the cycle unit and the notices (R135). -/
@[simp] theorem takeSwap_frame (s : State) :
    (takeSwap s).pins = s.pins ∧ (takeSwap s).inReset = s.inReset ∧ (takeSwap s).profile = s.profile ∧
    (takeSwap s).timebase = s.timebase ∧ (takeSwap s).roundCtl = s.roundCtl ∧ (takeSwap s).channels = s.channels ∧
    (takeSwap s).journal = s.journal ∧ (takeSwap s).action = s.action ∧ (takeSwap s).hold = s.hold ∧
    (takeSwap s).request = s.request ∧ (takeSwap s).port = s.port ∧ (takeSwap s).freeCount = s.freeCount ∧
    (takeSwap s).pending = s.pending := by
  unfold takeSwap
  repeat' split
  all_goals simp

/-- The round start touches the cycle unit, the channel units and the notices (R127). -/
@[simp] theorem cycleRoundStart_frame (s : State) :
    (cycleRoundStart s).pins = s.pins ∧ (cycleRoundStart s).inReset = s.inReset ∧
    (cycleRoundStart s).profile = s.profile ∧ (cycleRoundStart s).timebase = s.timebase ∧
    (cycleRoundStart s).roundCtl = s.roundCtl ∧ (cycleRoundStart s).journal = s.journal ∧
    (cycleRoundStart s).action = s.action ∧ (cycleRoundStart s).hold = s.hold ∧
    (cycleRoundStart s).request = s.request ∧ (cycleRoundStart s).port = s.port ∧
    (cycleRoundStart s).freeCount = s.freeCount ∧ (cycleRoundStart s).pending = s.pending := by
  simp only [cycleRoundStart]
  split <;> simp

/-- The cycle unit alone takes this (R139). -/
@[simp] theorem cycleEntersListen_frame (s : State) :
    (cycleEntersListen s).pins = s.pins ∧ (cycleEntersListen s).inReset = s.inReset ∧
    (cycleEntersListen s).profile = s.profile ∧ (cycleEntersListen s).timebase = s.timebase ∧
    (cycleEntersListen s).roundCtl = s.roundCtl ∧ (cycleEntersListen s).channels = s.channels ∧
    (cycleEntersListen s).journal = s.journal ∧ (cycleEntersListen s).action = s.action ∧
    (cycleEntersListen s).hold = s.hold ∧ (cycleEntersListen s).request = s.request ∧
    (cycleEntersListen s).port = s.port ∧ (cycleEntersListen s).notice = s.notice ∧
    (cycleEntersListen s).freeCount = s.freeCount ∧ (cycleEntersListen s).pending = s.pending := by simp [cycleEntersListen]

/-- The cycle unit alone takes this (R130). -/
@[simp] theorem cycleEntersHeld_frame (s : State) :
    (cycleEntersHeld s).pins = s.pins ∧ (cycleEntersHeld s).inReset = s.inReset ∧
    (cycleEntersHeld s).profile = s.profile ∧ (cycleEntersHeld s).timebase = s.timebase ∧
    (cycleEntersHeld s).roundCtl = s.roundCtl ∧ (cycleEntersHeld s).channels = s.channels ∧
    (cycleEntersHeld s).journal = s.journal ∧ (cycleEntersHeld s).action = s.action ∧
    (cycleEntersHeld s).hold = s.hold ∧ (cycleEntersHeld s).request = s.request ∧
    (cycleEntersHeld s).port = s.port ∧ (cycleEntersHeld s).notice = s.notice ∧
    (cycleEntersHeld s).freeCount = s.freeCount ∧ (cycleEntersHeld s).pending = s.pending := by simp [cycleEntersHeld]

/-- The cycle unit alone takes this (R130). -/
@[simp] theorem cycleLeavesHeld_frame (s : State) :
    (cycleLeavesHeld s).pins = s.pins ∧ (cycleLeavesHeld s).inReset = s.inReset ∧
    (cycleLeavesHeld s).profile = s.profile ∧ (cycleLeavesHeld s).timebase = s.timebase ∧
    (cycleLeavesHeld s).roundCtl = s.roundCtl ∧ (cycleLeavesHeld s).channels = s.channels ∧
    (cycleLeavesHeld s).journal = s.journal ∧ (cycleLeavesHeld s).action = s.action ∧
    (cycleLeavesHeld s).hold = s.hold ∧ (cycleLeavesHeld s).request = s.request ∧
    (cycleLeavesHeld s).port = s.port ∧ (cycleLeavesHeld s).notice = s.notice ∧
    (cycleLeavesHeld s).freeCount = s.freeCount ∧ (cycleLeavesHeld s).pending = s.pending := by simp [cycleLeavesHeld]

end Sys2Proof.Machine
end

