-- ==== Sys2Proof/Laws/Hold.lean ====
section
/-! SUPPORT. What each operation of the hold unit leaves alone. -/

namespace Sys2Proof.Machine

/-- The entry into HELD leaves the clock, the port, the outbound table and the profile alone (R152). -/
@[simp] theorem enterHeld_frame (s : State) :
    (enterHeld s).pins = s.pins ∧ (enterHeld s).inReset = s.inReset ∧ (enterHeld s).profile = s.profile ∧
    (enterHeld s).timebase = s.timebase ∧ (enterHeld s).request = s.request ∧ (enterHeld s).port = s.port ∧
    (enterHeld s).freeCount = s.freeCount ∧ (enterHeld s).pending = s.pending := by simp [enterHeld]

/-- A reason added touches what the entry into HELD touches (R153). -/
@[simp] theorem addReason_frame (r : Reason) (s : State) :
    (addReason r s).pins = s.pins ∧ (addReason r s).inReset = s.inReset ∧ (addReason r s).profile = s.profile ∧
    (addReason r s).timebase = s.timebase ∧ (addReason r s).request = s.request ∧ (addReason r s).port = s.port ∧
    (addReason r s).freeCount = s.freeCount ∧ (addReason r s).pending = s.pending := by
  simp only [addReason]
  split <;> simp

/-- A reason removed touches the hold unit (R153). -/
@[simp] theorem removeReason_frame (r : Reason) (s : State) :
    (removeReason r s).pins = s.pins ∧ (removeReason r s).inReset = s.inReset ∧
    (removeReason r s).profile = s.profile ∧ (removeReason r s).timebase = s.timebase ∧
    (removeReason r s).roundCtl = s.roundCtl ∧ (removeReason r s).channels = s.channels ∧
    (removeReason r s).journal = s.journal ∧ (removeReason r s).action = s.action ∧
    (removeReason r s).cycle = s.cycle ∧ (removeReason r s).request = s.request ∧
    (removeReason r s).port = s.port ∧ (removeReason r s).notice = s.notice ∧
    (removeReason r s).freeCount = s.freeCount ∧ (removeReason r s).pending = s.pending := by simp [removeReason]

/-- The leaving of HELD touches the hold, channel, action and cycle units and the notices (R154). -/
@[simp] theorem leaveHeld_frame (s : State) :
    (leaveHeld s).pins = s.pins ∧ (leaveHeld s).inReset = s.inReset ∧ (leaveHeld s).profile = s.profile ∧
    (leaveHeld s).timebase = s.timebase ∧ (leaveHeld s).roundCtl = s.roundCtl ∧ (leaveHeld s).journal = s.journal ∧
    (leaveHeld s).request = s.request ∧ (leaveHeld s).port = s.port ∧ (leaveHeld s).freeCount = s.freeCount ∧
    (leaveHeld s).pending = s.pending := by simp [leaveHeld]

/-- The round start touches what the leaving of HELD touches (R154). -/
@[simp] theorem holdRoundStart_frame (s : State) :
    (holdRoundStart s).pins = s.pins ∧ (holdRoundStart s).inReset = s.inReset ∧
    (holdRoundStart s).profile = s.profile ∧ (holdRoundStart s).timebase = s.timebase ∧
    (holdRoundStart s).roundCtl = s.roundCtl ∧ (holdRoundStart s).journal = s.journal ∧
    (holdRoundStart s).request = s.request ∧ (holdRoundStart s).port = s.port ∧
    (holdRoundStart s).freeCount = s.freeCount ∧ (holdRoundStart s).pending = s.pending := by
  unfold holdRoundStart
  split <;> simp

/-- A change of synchronization state touches what the entry into HELD touches (R148). -/
@[simp] theorem holdTakesSync_frame (s : State) :
    (holdTakesSync s).pins = s.pins ∧ (holdTakesSync s).inReset = s.inReset ∧
    (holdTakesSync s).profile = s.profile ∧ (holdTakesSync s).timebase = s.timebase ∧
    (holdTakesSync s).request = s.request ∧ (holdTakesSync s).port = s.port ∧
    (holdTakesSync s).freeCount = s.freeCount ∧ (holdTakesSync s).pending = s.pending := by
  unfold holdTakesSync
  repeat' split
  all_goals simp

/-- A sample of HOLD touches the hold unit (R149). -/
@[simp] theorem sampleHold_frame (s : State) :
    (sampleHold s).pins = s.pins ∧ (sampleHold s).inReset = s.inReset ∧ (sampleHold s).profile = s.profile ∧
    (sampleHold s).timebase = s.timebase ∧ (sampleHold s).roundCtl = s.roundCtl ∧
    (sampleHold s).channels = s.channels ∧ (sampleHold s).journal = s.journal ∧ (sampleHold s).action = s.action ∧
    (sampleHold s).cycle = s.cycle ∧ (sampleHold s).request = s.request ∧ (sampleHold s).port = s.port ∧
    (sampleHold s).notice = s.notice ∧ (sampleHold s).freeCount = s.freeCount ∧ (sampleHold s).pending = s.pending := by
  unfold sampleHold
  split <;> simp

/-- HOLD_LINE_ACCEPTED touches what the entry into HELD touches (R149). -/
@[simp] theorem takeHoldLine_frame (s : State) :
    (takeHoldLine s).pins = s.pins ∧ (takeHoldLine s).inReset = s.inReset ∧ (takeHoldLine s).profile = s.profile ∧
    (takeHoldLine s).timebase = s.timebase ∧ (takeHoldLine s).request = s.request ∧
    (takeHoldLine s).port = s.port ∧ (takeHoldLine s).freeCount = s.freeCount ∧
    (takeHoldLine s).pending = s.pending := by
  simp only [takeHoldLine]
  repeat' split
  all_goals simp

/-- The hold unit at START changes alone (R147). -/
@[simp] theorem startHold_frame (s : State) :
    (startHold s).pins = s.pins ∧ (startHold s).inReset = s.inReset ∧ (startHold s).profile = s.profile ∧
    (startHold s).timebase = s.timebase ∧ (startHold s).roundCtl = s.roundCtl ∧
    (startHold s).channels = s.channels ∧ (startHold s).journal = s.journal ∧ (startHold s).action = s.action ∧
    (startHold s).cycle = s.cycle ∧ (startHold s).request = s.request ∧ (startHold s).port = s.port ∧
    (startHold s).notice = s.notice ∧ (startHold s).freeCount = s.freeCount ∧ (startHold s).pending = s.pending :=
      by simp [startHold]

end Sys2Proof.Machine
end

