-- ==== Sys2Proof/Laws/Requests.lean ====
section
/-! SUPPORT. What each operation of the request unit leaves alone. -/

namespace Sys2Proof.Machine

/-- An ARM item touches the action unit, the send queue and the notices (R160). -/
@[simp] theorem takeArmItem_frame (o : Nat) (t : Octet) (c : Nat) (f : ArmFields) (s : State) :
    (takeArmItem o t c f s).pins = s.pins ∧ (takeArmItem o t c f s).inReset = s.inReset ∧
    (takeArmItem o t c f s).profile = s.profile ∧ (takeArmItem o t c f s).timebase = s.timebase ∧
    (takeArmItem o t c f s).channels = s.channels ∧ (takeArmItem o t c f s).journal = s.journal ∧
    (takeArmItem o t c f s).cycle = s.cycle ∧ (takeArmItem o t c f s).hold = s.hold ∧
    (takeArmItem o t c f s).request = s.request ∧ (takeArmItem o t c f s).port = s.port ∧
    (takeArmItem o t c f s).freeCount = s.freeCount ∧ (takeArmItem o t c f s).pending = s.pending := by
  simp only [takeArmItem]
  simp

/-- A CANCEL item touches what a cancel touches (R162). -/
@[simp] theorem takeCancelItem_frame (o : Nat) (t : Octet) (s : State) :
    (takeCancelItem o t s).pins = s.pins ∧ (takeCancelItem o t s).inReset = s.inReset ∧
    (takeCancelItem o t s).profile = s.profile ∧ (takeCancelItem o t s).timebase = s.timebase ∧
    (takeCancelItem o t s).channels = s.channels ∧ (takeCancelItem o t s).cycle = s.cycle ∧
    (takeCancelItem o t s).hold = s.hold ∧ (takeCancelItem o t s).request = s.request ∧
    (takeCancelItem o t s).port = s.port ∧ (takeCancelItem o t s).freeCount = s.freeCount ∧
    (takeCancelItem o t s).pending = s.pending := by
  unfold takeCancelItem
  split <;> simp

/-- A completion touches the outbound table, the journal and the notices (R169). -/
@[simp] theorem completeRecord_frame (p : Nat) (c : Octet) (x : Carried) (s : State) :
    (completeRecord p c x s).pins = s.pins ∧ (completeRecord p c x s).inReset = s.inReset ∧
    (completeRecord p c x s).profile = s.profile ∧ (completeRecord p c x s).timebase = s.timebase ∧
    (completeRecord p c x s).roundCtl = s.roundCtl ∧ (completeRecord p c x s).channels = s.channels ∧
    (completeRecord p c x s).action = s.action ∧ (completeRecord p c x s).cycle = s.cycle ∧
    (completeRecord p c x s).hold = s.hold ∧ (completeRecord p c x s).port = s.port ∧
    (completeRecord p c x s).freeCount = s.freeCount ∧ (completeRecord p c x s).pending = s.pending := by
  unfold completeRecord
  split <;> simp

/-- Completions touch the outbound table, the journal and the notices. -/
@[simp] theorem completeWhere_frame (p : OutRecord → Bool) (c : Octet) (s : State) :
    (completeWhere p c s).pins = s.pins ∧ (completeWhere p c s).inReset = s.inReset ∧
    (completeWhere p c s).profile = s.profile ∧ (completeWhere p c s).timebase = s.timebase ∧
    (completeWhere p c s).roundCtl = s.roundCtl ∧ (completeWhere p c s).channels = s.channels ∧
    (completeWhere p c s).action = s.action ∧ (completeWhere p c s).cycle = s.cycle ∧
    (completeWhere p c s).hold = s.hold ∧ (completeWhere p c s).port = s.port ∧
    (completeWhere p c s).freeCount = s.freeCount ∧ (completeWhere p c s).pending = s.pending := by
  unfold completeWhere
  exact ⟨foldl_keeps State.pins (fun s x => by simp) _ s, foldl_keeps State.inReset (fun s x => by simp) _ s,
    foldl_keeps State.profile (fun s x => by simp) _ s, foldl_keeps State.timebase (fun s x => by simp) _ s,
    foldl_keeps State.roundCtl (fun s x => by simp) _ s, foldl_keeps State.channels (fun s x => by simp) _ s,
    foldl_keeps State.action (fun s x => by simp) _ s, foldl_keeps State.cycle (fun s x => by simp) _ s,
    foldl_keeps State.hold (fun s x => by simp) _ s, foldl_keeps State.port (fun s x => by simp) _ s,
    foldl_keeps State.freeCount (fun s x => by simp) _ s, foldl_keeps State.pending (fun s x => by simp) _ s⟩

/-- A report of sending touches the outbound table (R167). -/
@[simp] theorem takeArmSent_frame (o : Nat) (t : Octet) (r : Word16) (s : State) :
    (takeArmSent o t r s).pins = s.pins ∧ (takeArmSent o t r s).inReset = s.inReset ∧
    (takeArmSent o t r s).profile = s.profile ∧ (takeArmSent o t r s).timebase = s.timebase ∧
    (takeArmSent o t r s).roundCtl = s.roundCtl ∧ (takeArmSent o t r s).channels = s.channels ∧
    (takeArmSent o t r s).journal = s.journal ∧ (takeArmSent o t r s).action = s.action ∧
    (takeArmSent o t r s).cycle = s.cycle ∧ (takeArmSent o t r s).hold = s.hold ∧
    (takeArmSent o t r s).port = s.port ∧ (takeArmSent o t r s).notice = s.notice ∧
    (takeArmSent o t r s).freeCount = s.freeCount ∧ (takeArmSent o t r s).pending = s.pending := by
  unfold takeArmSent
  repeat' split
  all_goals simp

/-- An UNSOLICITED report touches the request unit, the journal and the notices (R170). -/
@[simp] theorem writeUnsolicited_frame (o : Nat) (r : ReportItem) (s : State) :
    (writeUnsolicited o r s).pins = s.pins ∧ (writeUnsolicited o r s).inReset = s.inReset ∧
    (writeUnsolicited o r s).profile = s.profile ∧ (writeUnsolicited o r s).timebase = s.timebase ∧
    (writeUnsolicited o r s).roundCtl = s.roundCtl ∧ (writeUnsolicited o r s).channels = s.channels ∧
    (writeUnsolicited o r s).action = s.action ∧ (writeUnsolicited o r s).cycle = s.cycle ∧
    (writeUnsolicited o r s).hold = s.hold ∧ (writeUnsolicited o r s).port = s.port ∧
    (writeUnsolicited o r s).freeCount = s.freeCount ∧ (writeUnsolicited o r s).pending = s.pending :=
      by simp [writeUnsolicited]

/-- An answer touches the outbound table, the journal and the notices (R168). -/
@[simp] theorem answerRecord_frame (p : Nat) (o : OutRecord) (k : Nat) (r : ReportItem) (s : State) :
    (answerRecord p o k r s).pins = s.pins ∧ (answerRecord p o k r s).inReset = s.inReset ∧
    (answerRecord p o k r s).profile = s.profile ∧ (answerRecord p o k r s).timebase = s.timebase ∧
    (answerRecord p o k r s).roundCtl = s.roundCtl ∧ (answerRecord p o k r s).channels = s.channels ∧
    (answerRecord p o k r s).action = s.action ∧ (answerRecord p o k r s).cycle = s.cycle ∧
    (answerRecord p o k r s).hold = s.hold ∧ (answerRecord p o k r s).port = s.port ∧
    (answerRecord p o k r s).freeCount = s.freeCount ∧ (answerRecord p o k r s).pending = s.pending := by
  unfold answerRecord
  repeat' split
  all_goals simp

/-- A REPORT item touches the outbound table, the journal and the notices (R168). -/
@[simp] theorem takeReportItem_frame (k : Nat) (r : ReportItem) (s : State) :
    (takeReportItem k r s).pins = s.pins ∧ (takeReportItem k r s).inReset = s.inReset ∧
    (takeReportItem k r s).profile = s.profile ∧ (takeReportItem k r s).timebase = s.timebase ∧
    (takeReportItem k r s).roundCtl = s.roundCtl ∧ (takeReportItem k r s).channels = s.channels ∧
    (takeReportItem k r s).action = s.action ∧ (takeReportItem k r s).cycle = s.cycle ∧
    (takeReportItem k r s).hold = s.hold ∧ (takeReportItem k r s).port = s.port ∧
    (takeReportItem k r s).freeCount = s.freeCount ∧ (takeReportItem k r s).pending = s.pending := by
  unfold takeReportItem
  repeat' split
  all_goals simp

/-- The round start touches the outbound table, the journal and the notices (R171). -/
@[simp] theorem requestRoundStart_frame (s : State) :
    (requestRoundStart s).pins = s.pins ∧ (requestRoundStart s).inReset = s.inReset ∧
    (requestRoundStart s).profile = s.profile ∧ (requestRoundStart s).timebase = s.timebase ∧
    (requestRoundStart s).roundCtl = s.roundCtl ∧ (requestRoundStart s).channels = s.channels ∧
    (requestRoundStart s).action = s.action ∧ (requestRoundStart s).cycle = s.cycle ∧
    (requestRoundStart s).hold = s.hold ∧ (requestRoundStart s).port = s.port ∧
    (requestRoundStart s).freeCount = s.freeCount ∧ (requestRoundStart s).pending = s.pending := by
  unfold requestRoundStart
  split <;> simp

/-- A loss touches the outbound table, the journal and the notices (R172). -/
@[simp] theorem takePeerLost_frame (k : Nat) (s : State) :
    (takePeerLost k s).pins = s.pins ∧ (takePeerLost k s).inReset = s.inReset ∧
    (takePeerLost k s).profile = s.profile ∧ (takePeerLost k s).timebase = s.timebase ∧
    (takePeerLost k s).roundCtl = s.roundCtl ∧ (takePeerLost k s).channels = s.channels ∧
    (takePeerLost k s).action = s.action ∧ (takePeerLost k s).cycle = s.cycle ∧ (takePeerLost k s).hold = s.hold ∧
    (takePeerLost k s).port = s.port ∧ (takePeerLost k s).freeCount = s.freeCount ∧
    (takePeerLost k s).pending = s.pending := by simp [takePeerLost]

/-- The fall touches the outbound table, the journal and the notices (R176). -/
@[simp] theorem abandonRecords_frame (s : State) :
    (abandonRecords s).pins = s.pins ∧ (abandonRecords s).inReset = s.inReset ∧
    (abandonRecords s).profile = s.profile ∧ (abandonRecords s).timebase = s.timebase ∧
    (abandonRecords s).roundCtl = s.roundCtl ∧ (abandonRecords s).channels = s.channels ∧
    (abandonRecords s).action = s.action ∧ (abandonRecords s).cycle = s.cycle ∧ (abandonRecords s).hold = s.hold ∧
    (abandonRecords s).port = s.port ∧ (abandonRecords s).freeCount = s.freeCount ∧
    (abandonRecords s).pending = s.pending := by simp [abandonRecords]

end Sys2Proof.Machine
end

