-- ==== Sys2Proof/Laws/Timebase.lean ====
section
/-! SUPPORT. What each operation of the timebase leaves alone. -/

namespace Sys2Proof.Machine

/-- A change of state touches the timebase and what the hold unit touches (R35, R148). -/
@[simp] theorem enterSync_frame (y : Sync) (s : State) :
    (enterSync y s).pins = s.pins ∧ (enterSync y s).inReset = s.inReset ∧ (enterSync y s).profile = s.profile ∧
    (enterSync y s).request = s.request ∧ (enterSync y s).port = s.port ∧ (enterSync y s).freeCount = s.freeCount ∧
    (enterSync y s).pending = s.pending := by simp [enterSync]

/-- The round controller alone (R57). -/
@[simp] theorem peersAbsent_frame (s : State) :
    (peersAbsent s).pins = s.pins ∧ (peersAbsent s).inReset = s.inReset ∧ (peersAbsent s).profile = s.profile ∧
    (peersAbsent s).timebase = s.timebase ∧ (peersAbsent s).channels = s.channels ∧
    (peersAbsent s).journal = s.journal ∧ (peersAbsent s).action = s.action ∧ (peersAbsent s).cycle = s.cycle ∧
    (peersAbsent s).hold = s.hold ∧ (peersAbsent s).request = s.request ∧ (peersAbsent s).port = s.port ∧
    (peersAbsent s).notice = s.notice ∧ (peersAbsent s).freeCount = s.freeCount ∧
    (peersAbsent s).pending = s.pending := by simp [peersAbsent]

/-- The timebase alone (R31). -/
@[simp] theorem timebaseFalls_frame (s : State) :
    (timebaseFalls s).pins = s.pins ∧ (timebaseFalls s).inReset = s.inReset ∧
    (timebaseFalls s).profile = s.profile ∧ (timebaseFalls s).roundCtl = s.roundCtl ∧
    (timebaseFalls s).channels = s.channels ∧ (timebaseFalls s).journal = s.journal ∧
    (timebaseFalls s).action = s.action ∧ (timebaseFalls s).cycle = s.cycle ∧ (timebaseFalls s).hold = s.hold ∧
    (timebaseFalls s).request = s.request ∧ (timebaseFalls s).port = s.port ∧ (timebaseFalls s).notice = s.notice ∧
    (timebaseFalls s).freeCount = s.freeCount ∧ (timebaseFalls s).pending = s.pending := by simp [timebaseFalls]

/-- The request unit's part of the fall (R176). -/
@[simp] theorem requestFalls_frame (y : Sync) (s : State) :
    (requestFalls y s).pins = s.pins ∧ (requestFalls y s).inReset = s.inReset ∧
    (requestFalls y s).profile = s.profile ∧ (requestFalls y s).timebase = s.timebase ∧
    (requestFalls y s).roundCtl = s.roundCtl ∧ (requestFalls y s).channels = s.channels ∧
    (requestFalls y s).action = s.action ∧ (requestFalls y s).cycle = s.cycle ∧ (requestFalls y s).hold = s.hold ∧
    (requestFalls y s).port = s.port ∧ (requestFalls y s).freeCount = s.freeCount ∧
    (requestFalls y s).pending = s.pending := by
  unfold requestFalls
  split <;> simp

/-- The fall to LISTEN leaves the pins, the profile, the port and the queue alone (R31). -/
@[simp] theorem fallToListen_frame (o : RoundOrder) (c : Option Cause) (s : State) :
    (fallToListen o c s).pins = s.pins ∧ (fallToListen o c s).inReset = s.inReset ∧
    (fallToListen o c s).profile = s.profile ∧ (fallToListen o c s).port = s.port ∧
    (fallToListen o c s).freeCount = s.freeCount ∧ (fallToListen o c s).pending = s.pending := by
  simp only [fallToListen]
  repeat' split
  all_goals simp

/-- A failed COLDSTART touches what the fall touches (R23). -/
@[simp] theorem coldstartFails_frame (o : RoundOrder) (s : State) :
    (coldstartFails o s).pins = s.pins ∧ (coldstartFails o s).inReset = s.inReset ∧
    (coldstartFails o s).profile = s.profile ∧ (coldstartFails o s).port = s.port ∧
    (coldstartFails o s).freeCount = s.freeCount ∧ (coldstartFails o s).pending = s.pending := by simp [coldstartFails]

/-- A garble or collision touches what the fall touches (R23). -/
@[simp] theorem coldstartDisturbed_frame (s : State) :
    (coldstartDisturbed s).pins = s.pins ∧ (coldstartDisturbed s).inReset = s.inReset ∧
    (coldstartDisturbed s).profile = s.profile ∧ (coldstartDisturbed s).port = s.port ∧
    (coldstartDisturbed s).freeCount = s.freeCount ∧ (coldstartDisturbed s).pending = s.pending := by
  unfold coldstartDisturbed
  split <;> simp

/-- LISTEN_TIMER_EXPIRY touches what a change of state touches (R19). -/
@[simp] theorem takeListenExpiry_frame (s : State) :
    (takeListenExpiry s).pins = s.pins ∧ (takeListenExpiry s).inReset = s.inReset ∧
    (takeListenExpiry s).profile = s.profile ∧ (takeListenExpiry s).request = s.request ∧
    (takeListenExpiry s).port = s.port ∧ (takeListenExpiry s).freeCount = s.freeCount ∧
    (takeListenExpiry s).pending = s.pending := by
  simp only [takeListenExpiry]
  repeat' split
  all_goals simp

/-- The entry into SYNCED touches what a change of state touches. -/
@[simp] theorem enterSynced_frame (s : State) :
    (enterSynced s).pins = s.pins ∧ (enterSynced s).inReset = s.inReset ∧ (enterSynced s).profile = s.profile ∧
    (enterSynced s).request = s.request ∧ (enterSynced s).port = s.port ∧ (enterSynced s).freeCount = s.freeCount ∧
    (enterSynced s).pending = s.pending := by simp [enterSynced]

/-- A round-end transition touches what the fall touches. -/
@[simp] theorem coldstartRoundEnd_frame (o : RoundOrder) (c : Int) (k : Nat) (s : State) :
    (coldstartRoundEnd o c k s).pins = s.pins ∧ (coldstartRoundEnd o c k s).inReset = s.inReset ∧
    (coldstartRoundEnd o c k s).profile = s.profile ∧ (coldstartRoundEnd o c k s).port = s.port ∧
    (coldstartRoundEnd o c k s).freeCount = s.freeCount ∧ (coldstartRoundEnd o c k s).pending = s.pending := by
  simp only [coldstartRoundEnd]
  repeat' split
  all_goals simp

/-- A round-end transition touches what the fall touches. -/
@[simp] theorem joiningRoundEnd_frame (o : RoundOrder) (c : Int) (k : Nat) (s : State) :
    (joiningRoundEnd o c k s).pins = s.pins ∧ (joiningRoundEnd o c k s).inReset = s.inReset ∧
    (joiningRoundEnd o c k s).profile = s.profile ∧ (joiningRoundEnd o c k s).port = s.port ∧
    (joiningRoundEnd o c k s).freeCount = s.freeCount ∧ (joiningRoundEnd o c k s).pending = s.pending := by
  simp only [joiningRoundEnd]
  repeat' split
  all_goals simp

/-- A round-end transition touches what the fall touches. -/
@[simp] theorem syncedRoundEnd_frame (o : RoundOrder) (c : Int) (k n : Nat) (s : State) :
    (syncedRoundEnd o c k n s).pins = s.pins ∧ (syncedRoundEnd o c k n s).inReset = s.inReset ∧
    (syncedRoundEnd o c k n s).profile = s.profile ∧ (syncedRoundEnd o c k n s).port = s.port ∧
    (syncedRoundEnd o c k n s).freeCount = s.freeCount ∧ (syncedRoundEnd o c k n s).pending = s.pending := by
  simp only [syncedRoundEnd]
  repeat' split
  all_goals simp

/-- A round-end transition touches what the fall touches. -/
@[simp] theorem holdoverRoundEnd_frame (o : RoundOrder) (c : Int) (k : Nat) (s : State) :
    (holdoverRoundEnd o c k s).pins = s.pins ∧ (holdoverRoundEnd o c k s).inReset = s.inReset ∧
    (holdoverRoundEnd o c k s).profile = s.profile ∧ (holdoverRoundEnd o c k s).port = s.port ∧
    (holdoverRoundEnd o c k s).freeCount = s.freeCount ∧ (holdoverRoundEnd o c k s).pending = s.pending := by
  simp only [holdoverRoundEnd]
  repeat' split
  all_goals simp

/-- A round-end transition touches what the fall touches. -/
@[simp] theorem roundTransition_frame (o : RoundOrder) (c : Int) (k n : Nat) (s : State) :
    (roundTransition o c k n s).pins = s.pins ∧ (roundTransition o c k n s).inReset = s.inReset ∧
    (roundTransition o c k n s).profile = s.profile ∧ (roundTransition o c k n s).port = s.port ∧
    (roundTransition o c k n s).freeCount = s.freeCount ∧ (roundTransition o c k n s).pending = s.pending := by
  simp only [roundTransition]
  repeat' split
  all_goals simp

/-- Silence touches the round controller and the notices (R56). -/
@[simp] theorem countSilence_frame (k : Nat) (s : State) :
    (countSilence s k).pins = s.pins ∧ (countSilence s k).inReset = s.inReset ∧
    (countSilence s k).profile = s.profile ∧ (countSilence s k).timebase = s.timebase ∧
    (countSilence s k).channels = s.channels ∧ (countSilence s k).journal = s.journal ∧
    (countSilence s k).action = s.action ∧ (countSilence s k).cycle = s.cycle ∧ (countSilence s k).hold = s.hold ∧
    (countSilence s k).request = s.request ∧ (countSilence s k).port = s.port ∧
    (countSilence s k).freeCount = s.freeCount ∧ (countSilence s k).pending = s.pending := by
  simp only [countSilence]
  repeat' split
  all_goals simp

/-- Silence touches the round controller and the notices (R56). -/
@[simp] theorem foldl_countSilence_frame (l : List Nat) (s : State) :
    (l.foldl countSilence s).pins = s.pins ∧ (l.foldl countSilence s).inReset = s.inReset ∧
    (l.foldl countSilence s).profile = s.profile ∧ (l.foldl countSilence s).timebase = s.timebase ∧
    (l.foldl countSilence s).channels = s.channels ∧ (l.foldl countSilence s).journal = s.journal ∧
    (l.foldl countSilence s).action = s.action ∧ (l.foldl countSilence s).cycle = s.cycle ∧
    (l.foldl countSilence s).hold = s.hold ∧ (l.foldl countSilence s).request = s.request ∧
    (l.foldl countSilence s).port = s.port ∧ (l.foldl countSilence s).freeCount = s.freeCount ∧
    (l.foldl countSilence s).pending = s.pending := ⟨foldl_keeps State.pins (fun s x => by simp) _ _,
      foldl_keeps State.inReset (fun s x => by simp) _ _, foldl_keeps State.profile (fun s x => by simp) _ _,
      foldl_keeps State.timebase (fun s x => by simp) _ _, foldl_keeps State.channels (fun s x => by simp) _ _,
      foldl_keeps State.journal (fun s x => by simp) _ _, foldl_keeps State.action (fun s x => by simp) _ _,
      foldl_keeps State.cycle (fun s x => by simp) _ _, foldl_keeps State.hold (fun s x => by simp) _ _,
      foldl_keeps State.request (fun s x => by simp) _ _, foldl_keeps State.port (fun s x => by simp) _ _,
      foldl_keeps State.freeCount (fun s x => by simp) _ _, foldl_keeps State.pending (fun s x => by simp) _ _⟩

/-- The round start of the round controller (R54, R56). -/
@[simp] theorem peersRoundStart_frame (s : State) :
    (peersRoundStart s).pins = s.pins ∧ (peersRoundStart s).inReset = s.inReset ∧
    (peersRoundStart s).profile = s.profile ∧ (peersRoundStart s).timebase = s.timebase ∧
    (peersRoundStart s).channels = s.channels ∧ (peersRoundStart s).journal = s.journal ∧
    (peersRoundStart s).action = s.action ∧ (peersRoundStart s).cycle = s.cycle ∧
    (peersRoundStart s).hold = s.hold ∧ (peersRoundStart s).request = s.request ∧
    (peersRoundStart s).port = s.port ∧ (peersRoundStart s).freeCount = s.freeCount ∧
    (peersRoundStart s).pending = s.pending := by simp [peersRoundStart]

/-- Losses touch the outbound table, the journal and the notices (R172). -/
@[simp] theorem foldl_takePeerLost_frame (l : List Nat) (s : State) :
    (l.foldl (fun s k => takePeerLost k s) s).pins = s.pins ∧
    (l.foldl (fun s k => takePeerLost k s) s).inReset = s.inReset ∧
    (l.foldl (fun s k => takePeerLost k s) s).profile = s.profile ∧
    (l.foldl (fun s k => takePeerLost k s) s).timebase = s.timebase ∧
    (l.foldl (fun s k => takePeerLost k s) s).roundCtl = s.roundCtl ∧
    (l.foldl (fun s k => takePeerLost k s) s).channels = s.channels ∧
    (l.foldl (fun s k => takePeerLost k s) s).action = s.action ∧
    (l.foldl (fun s k => takePeerLost k s) s).cycle = s.cycle ∧
    (l.foldl (fun s k => takePeerLost k s) s).hold = s.hold ∧
    (l.foldl (fun s k => takePeerLost k s) s).port = s.port ∧
    (l.foldl (fun s k => takePeerLost k s) s).freeCount = s.freeCount ∧
    (l.foldl (fun s k => takePeerLost k s) s).pending = s.pending :=
      ⟨foldl_keeps State.pins (fun s x => by simp) _ _, foldl_keeps State.inReset (fun s x => by simp) _ _,
      foldl_keeps State.profile (fun s x => by simp) _ _, foldl_keeps State.timebase (fun s x => by simp) _ _,
      foldl_keeps State.roundCtl (fun s x => by simp) _ _, foldl_keeps State.channels (fun s x => by simp) _ _,
      foldl_keeps State.action (fun s x => by simp) _ _, foldl_keeps State.cycle (fun s x => by simp) _ _,
      foldl_keeps State.hold (fun s x => by simp) _ _, foldl_keeps State.port (fun s x => by simp) _ _,
      foldl_keeps State.freeCount (fun s x => by simp) _ _, foldl_keeps State.pending (fun s x => by simp) _ _⟩

/-- The round start of the request unit (R171, R172). -/
@[simp] theorem requestsRoundStart_frame (o : RoundOrder) (l : List Nat) (s : State) :
    (requestsRoundStart o l s).pins = s.pins ∧ (requestsRoundStart o l s).inReset = s.inReset ∧
    (requestsRoundStart o l s).profile = s.profile ∧ (requestsRoundStart o l s).timebase = s.timebase ∧
    (requestsRoundStart o l s).roundCtl = s.roundCtl ∧ (requestsRoundStart o l s).channels = s.channels ∧
    (requestsRoundStart o l s).action = s.action ∧ (requestsRoundStart o l s).cycle = s.cycle ∧
    (requestsRoundStart o l s).hold = s.hold ∧ (requestsRoundStart o l s).port = s.port ∧
    (requestsRoundStart o l s).freeCount = s.freeCount ∧ (requestsRoundStart o l s).pending = s.pending := by
  unfold requestsRoundStart
  split <;> simp

/-- The round start of the hold and cycle units (R127, R154). -/
@[simp] theorem outputsRoundStart_frame (o : ReleaseOrder) (s : State) :
    (outputsRoundStart o s).pins = s.pins ∧ (outputsRoundStart o s).inReset = s.inReset ∧
    (outputsRoundStart o s).profile = s.profile ∧ (outputsRoundStart o s).timebase = s.timebase ∧
    (outputsRoundStart o s).roundCtl = s.roundCtl ∧ (outputsRoundStart o s).journal = s.journal ∧
    (outputsRoundStart o s).request = s.request ∧ (outputsRoundStart o s).port = s.port ∧
    (outputsRoundStart o s).freeCount = s.freeCount ∧ (outputsRoundStart o s).pending = s.pending := by
  unfold outputsRoundStart
  split <;> simp

/-- A new round leaves the pins, the profile, the port and the queue alone (R6). -/
@[simp] theorem startRound_frame (o : RoundOrder) (y : Sync) (c : Int) (k : Nat) (s : State) :
    (startRound o y c k s).pins = s.pins ∧ (startRound o y c k s).inReset = s.inReset ∧
    (startRound o y c k s).profile = s.profile ∧ (startRound o y c k s).port = s.port ∧
    (startRound o y c k s).freeCount = s.freeCount ∧ (startRound o y c k s).pending = s.pending := by simp [startRound]

/-- ROUND_END leaves the pins, the profile, the port and the queue alone (R6). -/
@[simp] theorem takeRoundEnd_frame (o : RoundOrder) (s : State) :
    (takeRoundEnd o s).pins = s.pins ∧ (takeRoundEnd o s).inReset = s.inReset ∧
    (takeRoundEnd o s).profile = s.profile ∧ (takeRoundEnd o s).port = s.port ∧
    (takeRoundEnd o s).freeCount = s.freeCount ∧ (takeRoundEnd o s).pending = s.pending := by
  simp only [takeRoundEnd]
  repeat' split
  all_goals simp

/-- The fall to LISTEN leaves NT, the step number, the round and the round start alone (R31). -/
@[simp] theorem fallToListen_instants (o : RoundOrder) (c : Option Cause) (s : State) :
    (fallToListen o c s).timebase.nt = s.timebase.nt ∧ (fallToListen o c s).timebase.stepNo = s.timebase.stepNo ∧
    (fallToListen o c s).timebase.round = s.timebase.round ∧ (fallToListen o c s).timebase.rs = s.timebase.rs := by
  simp only [fallToListen]
  repeat' split
  all_goals simp [timebaseFalls, Timebase.clearSlew, Timebase.clearDeviations]

/-- A round-end transition leaves NT, the step number, the round and the round start alone (R24 to R29). -/
@[simp] theorem roundTransition_instants (o : RoundOrder) (c : Int) (k n : Nat) (s : State) :
    (roundTransition o c k n s).timebase.nt = s.timebase.nt ∧
    (roundTransition o c k n s).timebase.stepNo = s.timebase.stepNo ∧
    (roundTransition o c k n s).timebase.round = s.timebase.round ∧
    (roundTransition o c k n s).timebase.rs = s.timebase.rs := by
  simp only [roundTransition, coldstartRoundEnd, joiningRoundEnd, syncedRoundEnd, holdoverRoundEnd, coldstartFails,
    enterSynced, enterSync]
  repeat' split
  all_goals simp [countRound]

/-- ROUND_END leaves NT and the step number alone (R6). -/
@[simp] theorem takeRoundEnd_instants (o : RoundOrder) (s : State) :
    (takeRoundEnd o s).timebase.nt = s.timebase.nt ∧ (takeRoundEnd o s).timebase.stepNo = s.timebase.stepNo := by
  simp only [takeRoundEnd]
  repeat' split
  all_goals simp only [startRound, outputsRoundStart_frame, requestsRoundStart_frame, peersRoundStart_frame,
    timeUpdate_frame, Timebase.withSlew, Timebase.clearDeviations, roundTransition_instants, recordRound, and_self]
  all_goals (try split) <;> simp

/-- The round ends of a step leave what one round end leaves (R4). -/
@[simp] theorem endRounds_frame : ∀ (n : Nat) (s : State),
    (endRounds n s).pins = s.pins ∧ (endRounds n s).inReset = s.inReset ∧ (endRounds n s).profile = s.profile ∧
    (endRounds n s).port = s.port ∧ (endRounds n s).freeCount = s.freeCount ∧ (endRounds n s).pending = s.pending ∧
    (endRounds n s).timebase.nt = s.timebase.nt ∧ (endRounds n s).timebase.stepNo = s.timebase.stepNo
  | 0, _ => ⟨rfl, rfl, rfl, rfl, rfl, rfl, rfl, rfl⟩
  | n + 1, s => by
    have h := endRounds_frame n (takeRoundEnd defaultOrder s)
    simpa [endRounds] using h

/-- The round ends of a step leave what one round end leaves (R4). -/
@[simp] theorem takeRoundEnds_frame (s : State) :
    (takeRoundEnds s).pins = s.pins ∧ (takeRoundEnds s).inReset = s.inReset ∧
    (takeRoundEnds s).profile = s.profile ∧ (takeRoundEnds s).port = s.port ∧
    (takeRoundEnds s).freeCount = s.freeCount ∧ (takeRoundEnds s).pending = s.pending ∧
    (takeRoundEnds s).timebase.nt = s.timebase.nt ∧ (takeRoundEnds s).timebase.stepNo = s.timebase.stepNo :=
  endRounds_frame _ s

/-- With no round end due, nothing is taken (R4). -/
theorem takeRoundEnds_none {s : State} (h : roundEndDue s = false) : takeRoundEnds s = s := by
  simp [takeRoundEnds, roundsDue, h, endRounds]

/-- Adoption touches the timebase, the round controller and the notices (R14). -/
@[simp] theorem adopt_frame (r : Word16) (t : NT) (k : Nat) (o : NT) (s : State) :
    (adopt r t k o s).pins = s.pins ∧ (adopt r t k o s).inReset = s.inReset ∧
    (adopt r t k o s).profile = s.profile ∧ (adopt r t k o s).channels = s.channels ∧
    (adopt r t k o s).journal = s.journal ∧ (adopt r t k o s).action = s.action ∧
    (adopt r t k o s).cycle = s.cycle ∧ (adopt r t k o s).hold = s.hold ∧ (adopt r t k o s).request = s.request ∧
    (adopt r t k o s).port = s.port ∧ (adopt r t k o s).freeCount = s.freeCount ∧
    (adopt r t k o s).pending = s.pending := by simp [adopt]

/-- Joining touches what a change of state touches (R20, R22). -/
@[simp] theorem joinFrame_frame (a : Octet) (r : Word16) (t : NT) (k : Nat) (o : NT) (s : State) :
    (joinFrame a r t k o s).pins = s.pins ∧ (joinFrame a r t k o s).inReset = s.inReset ∧
    (joinFrame a r t k o s).profile = s.profile ∧ (joinFrame a r t k o s).request = s.request ∧
    (joinFrame a r t k o s).port = s.port ∧ (joinFrame a r t k o s).freeCount = s.freeCount ∧
    (joinFrame a r t k o s).pending = s.pending := by simp [joinFrame]

end Sys2Proof.Machine
end

