-- ==== Sys2Proof/Laws/Bus.lean ====
section
/-! SUPPORT. What each operation of the round controller leaves alone. -/

namespace Sys2Proof.Machine

/-- The begin of the own frame touches the round controller (R38). -/
@[simp] theorem beginFrame_frame (s : State) :
    (beginFrame s).pins = s.pins ∧ (beginFrame s).inReset = s.inReset ∧ (beginFrame s).profile = s.profile ∧
    (beginFrame s).timebase = s.timebase ∧ (beginFrame s).channels = s.channels ∧
    (beginFrame s).journal = s.journal ∧ (beginFrame s).action = s.action ∧ (beginFrame s).cycle = s.cycle ∧
    (beginFrame s).hold = s.hold ∧ (beginFrame s).request = s.request ∧ (beginFrame s).port = s.port ∧
    (beginFrame s).notice = s.notice ∧ (beginFrame s).freeCount = s.freeCount ∧ (beginFrame s).pending = s.pending :=
      by simp [beginFrame]

/-- OWN_SEND_INSTANT touches the round controller (R38). -/
@[simp] theorem takeSendInstant_frame (s : State) :
    (takeSendInstant s).pins = s.pins ∧ (takeSendInstant s).inReset = s.inReset ∧
    (takeSendInstant s).profile = s.profile ∧ (takeSendInstant s).timebase = s.timebase ∧
    (takeSendInstant s).channels = s.channels ∧ (takeSendInstant s).journal = s.journal ∧
    (takeSendInstant s).action = s.action ∧ (takeSendInstant s).cycle = s.cycle ∧
    (takeSendInstant s).hold = s.hold ∧ (takeSendInstant s).request = s.request ∧
    (takeSendInstant s).port = s.port ∧ (takeSendInstant s).notice = s.notice ∧
    (takeSendInstant s).freeCount = s.freeCount ∧ (takeSendInstant s).pending = s.pending := by
  simp only [takeSendInstant]
  repeat' split
  all_goals simp

/-- The end of the own frame touches the round controller. -/
@[simp] theorem endOwnFrame_frame (s : State) :
    (endOwnFrame s).pins = s.pins ∧ (endOwnFrame s).inReset = s.inReset ∧ (endOwnFrame s).profile = s.profile ∧
    (endOwnFrame s).timebase = s.timebase ∧ (endOwnFrame s).channels = s.channels ∧
    (endOwnFrame s).journal = s.journal ∧ (endOwnFrame s).action = s.action ∧ (endOwnFrame s).cycle = s.cycle ∧
    (endOwnFrame s).hold = s.hold ∧ (endOwnFrame s).request = s.request ∧ (endOwnFrame s).port = s.port ∧
    (endOwnFrame s).notice = s.notice ∧ (endOwnFrame s).freeCount = s.freeCount ∧
    (endOwnFrame s).pending = s.pending := by simp [endOwnFrame]

/-- COLLISION touches what the fall touches (R39, R23). -/
@[simp] theorem takeCollision_frame (s : State) :
    (takeCollision s).pins = s.pins ∧ (takeCollision s).inReset = s.inReset ∧
    (takeCollision s).profile = s.profile ∧ (takeCollision s).port = s.port ∧
    (takeCollision s).freeCount = s.freeCount ∧ (takeCollision s).pending = s.pending := by
  unfold takeCollision
  repeat' split
  all_goals simp

/-- A report of sending touches the outbound table (R45). -/
@[simp] theorem reportSent_frame (r : Word16) (i : Item) (s : State) :
    (reportSent r s i).pins = s.pins ∧ (reportSent r s i).inReset = s.inReset ∧
    (reportSent r s i).profile = s.profile ∧ (reportSent r s i).timebase = s.timebase ∧
    (reportSent r s i).roundCtl = s.roundCtl ∧ (reportSent r s i).channels = s.channels ∧
    (reportSent r s i).journal = s.journal ∧ (reportSent r s i).action = s.action ∧
    (reportSent r s i).cycle = s.cycle ∧ (reportSent r s i).hold = s.hold ∧ (reportSent r s i).port = s.port ∧
    (reportSent r s i).notice = s.notice ∧ (reportSent r s i).freeCount = s.freeCount ∧
    (reportSent r s i).pending = s.pending := by
  unfold reportSent
  split <;> simp

/-- Reports of sending touch the outbound table (R45). -/
@[simp] theorem foldl_reportSent_frame (r : Word16) (l : List Item) (s : State) :
    (l.foldl (reportSent r) s).pins = s.pins ∧ (l.foldl (reportSent r) s).inReset = s.inReset ∧
    (l.foldl (reportSent r) s).profile = s.profile ∧ (l.foldl (reportSent r) s).timebase = s.timebase ∧
    (l.foldl (reportSent r) s).roundCtl = s.roundCtl ∧ (l.foldl (reportSent r) s).channels = s.channels ∧
    (l.foldl (reportSent r) s).journal = s.journal ∧ (l.foldl (reportSent r) s).action = s.action ∧
    (l.foldl (reportSent r) s).cycle = s.cycle ∧ (l.foldl (reportSent r) s).hold = s.hold ∧
    (l.foldl (reportSent r) s).port = s.port ∧ (l.foldl (reportSent r) s).notice = s.notice ∧
    (l.foldl (reportSent r) s).freeCount = s.freeCount ∧ (l.foldl (reportSent r) s).pending = s.pending :=
      ⟨foldl_keeps State.pins (fun s x => by simp) _ _, foldl_keeps State.inReset (fun s x => by simp) _ _,
      foldl_keeps State.profile (fun s x => by simp) _ _, foldl_keeps State.timebase (fun s x => by simp) _ _,
      foldl_keeps State.roundCtl (fun s x => by simp) _ _, foldl_keeps State.channels (fun s x => by simp) _ _,
      foldl_keeps State.journal (fun s x => by simp) _ _, foldl_keeps State.action (fun s x => by simp) _ _,
      foldl_keeps State.cycle (fun s x => by simp) _ _, foldl_keeps State.hold (fun s x => by simp) _ _,
      foldl_keeps State.port (fun s x => by simp) _ _, foldl_keeps State.notice (fun s x => by simp) _ _,
      foldl_keeps State.freeCount (fun s x => by simp) _ _, foldl_keeps State.pending (fun s x => by simp) _ _⟩

/-- FRAME_SENT_WHOLE touches the round controller and the outbound table (R45). -/
@[simp] theorem takeFrameSent_frame (s : State) :
    (takeFrameSent s).pins = s.pins ∧ (takeFrameSent s).inReset = s.inReset ∧
    (takeFrameSent s).profile = s.profile ∧ (takeFrameSent s).timebase = s.timebase ∧
    (takeFrameSent s).channels = s.channels ∧ (takeFrameSent s).journal = s.journal ∧
    (takeFrameSent s).action = s.action ∧ (takeFrameSent s).cycle = s.cycle ∧ (takeFrameSent s).hold = s.hold ∧
    (takeFrameSent s).port = s.port ∧ (takeFrameSent s).notice = s.notice ∧
    (takeFrameSent s).freeCount = s.freeCount ∧ (takeFrameSent s).pending = s.pending := by
  unfold takeFrameSent
  repeat' split
  all_goals simp

/-- RECEPTION_START touches the round controller (R46). -/
@[simp] theorem takeReceptionStart_frame (s : State) :
    (takeReceptionStart s).pins = s.pins ∧ (takeReceptionStart s).inReset = s.inReset ∧
    (takeReceptionStart s).profile = s.profile ∧ (takeReceptionStart s).timebase = s.timebase ∧
    (takeReceptionStart s).channels = s.channels ∧ (takeReceptionStart s).journal = s.journal ∧
    (takeReceptionStart s).action = s.action ∧ (takeReceptionStart s).cycle = s.cycle ∧
    (takeReceptionStart s).hold = s.hold ∧ (takeReceptionStart s).request = s.request ∧
    (takeReceptionStart s).port = s.port ∧ (takeReceptionStart s).notice = s.notice ∧
    (takeReceptionStart s).freeCount = s.freeCount ∧ (takeReceptionStart s).pending = s.pending := by
  unfold takeReceptionStart
  repeat' split
  all_goals simp

/-- A peer entry is the round controller's (R53). -/
@[simp] theorem peerUpdate_frame (k : Nat) (f : Peer → Peer) (s : State) :
    (peerUpdate k f s).pins = s.pins ∧ (peerUpdate k f s).inReset = s.inReset ∧
    (peerUpdate k f s).profile = s.profile ∧ (peerUpdate k f s).timebase = s.timebase ∧
    (peerUpdate k f s).channels = s.channels ∧ (peerUpdate k f s).journal = s.journal ∧
    (peerUpdate k f s).action = s.action ∧ (peerUpdate k f s).cycle = s.cycle ∧ (peerUpdate k f s).hold = s.hold ∧
    (peerUpdate k f s).request = s.request ∧ (peerUpdate k f s).port = s.port ∧
    (peerUpdate k f s).notice = s.notice ∧ (peerUpdate k f s).freeCount = s.freeCount ∧
    (peerUpdate k f s).pending = s.pending := by
  unfold peerUpdate
  split <;> simp

/-- A count touches the peer table (R52). -/
@[simp] theorem countAttributed_frame (r : Reception) (f : Peer → Peer) (s : State) :
    (countAttributed r f s).pins = s.pins ∧ (countAttributed r f s).inReset = s.inReset ∧
    (countAttributed r f s).profile = s.profile ∧ (countAttributed r f s).timebase = s.timebase ∧
    (countAttributed r f s).channels = s.channels ∧ (countAttributed r f s).journal = s.journal ∧
    (countAttributed r f s).action = s.action ∧ (countAttributed r f s).cycle = s.cycle ∧
    (countAttributed r f s).hold = s.hold ∧ (countAttributed r f s).request = s.request ∧
    (countAttributed r f s).port = s.port ∧ (countAttributed r f s).notice = s.notice ∧
    (countAttributed r f s).pending = s.pending := by
  simp only [countAttributed]
  repeat' split
  all_goals simp

/-- A garbled frame touches the peer table and what the fall touches (R47). -/
@[simp] theorem takeGarbled_frame (r : Reception) (s : State) :
    (takeGarbled r s).pins = s.pins ∧ (takeGarbled r s).inReset = s.inReset ∧
    (takeGarbled r s).profile = s.profile ∧ (takeGarbled r s).port = s.port ∧
      (takeGarbled r s).pending = s.pending := by simp [takeGarbled]

/-- A valid frame's peer upkeep (R54, R55). -/
@[simp] theorem peerHeard_frame (f : Frame) (d : Int) (s : State) :
    (peerHeard f d s).pins = s.pins ∧ (peerHeard f d s).inReset = s.inReset ∧
    (peerHeard f d s).profile = s.profile ∧ (peerHeard f d s).timebase = s.timebase ∧
    (peerHeard f d s).channels = s.channels ∧ (peerHeard f d s).journal = s.journal ∧
    (peerHeard f d s).action = s.action ∧ (peerHeard f d s).cycle = s.cycle ∧ (peerHeard f d s).hold = s.hold ∧
    (peerHeard f d s).request = s.request ∧ (peerHeard f d s).port = s.port ∧
    (peerHeard f d s).freeCount = s.freeCount ∧ (peerHeard f d s).pending = s.pending := by
  simp only [peerHeard]
  repeat' split
  all_goals simp

/-- A deviation touches the timebase (R9). -/
@[simp] theorem handDeviation_frame (r : Reception) (f : Frame) (s : State) :
    (handDeviation r f s).pins = s.pins ∧ (handDeviation r f s).inReset = s.inReset ∧
    (handDeviation r f s).profile = s.profile ∧ (handDeviation r f s).roundCtl = s.roundCtl ∧
    (handDeviation r f s).channels = s.channels ∧ (handDeviation r f s).journal = s.journal ∧
    (handDeviation r f s).action = s.action ∧ (handDeviation r f s).cycle = s.cycle ∧
    (handDeviation r f s).hold = s.hold ∧ (handDeviation r f s).request = s.request ∧
    (handDeviation r f s).port = s.port ∧ (handDeviation r f s).notice = s.notice ∧
    (handDeviation r f s).freeCount = s.freeCount ∧ (handDeviation r f s).pending = s.pending := by
  simp only [handDeviation]
  repeat' split
  all_goals simp

/-- The swap field touches the cycle unit and the notices (R132). -/
@[simp] theorem handSwapField_frame (f : Frame) (s : State) :
    (handSwapField f s).pins = s.pins ∧ (handSwapField f s).inReset = s.inReset ∧
    (handSwapField f s).profile = s.profile ∧ (handSwapField f s).timebase = s.timebase ∧
    (handSwapField f s).roundCtl = s.roundCtl ∧ (handSwapField f s).channels = s.channels ∧
    (handSwapField f s).journal = s.journal ∧ (handSwapField f s).action = s.action ∧
    (handSwapField f s).hold = s.hold ∧ (handSwapField f s).request = s.request ∧
    (handSwapField f s).port = s.port ∧ (handSwapField f s).freeCount = s.freeCount ∧
    (handSwapField f s).pending = s.pending := by
  unfold handSwapField
  repeat' split
  all_goals simp

/-- An item touches the action unit, the journal, the send queue, the outbound table and the notices (R59). -/
@[simp] theorem handItem_frame (k : Nat) (i : Item) (s : State) :
    (handItem k s i).pins = s.pins ∧ (handItem k s i).inReset = s.inReset ∧ (handItem k s i).profile = s.profile ∧
    (handItem k s i).timebase = s.timebase ∧ (handItem k s i).channels = s.channels ∧
    (handItem k s i).cycle = s.cycle ∧ (handItem k s i).hold = s.hold ∧ (handItem k s i).port = s.port ∧
    (handItem k s i).freeCount = s.freeCount ∧ (handItem k s i).pending = s.pending := by
  unfold handItem
  repeat' split
  all_goals simp

/-- Items, one after another (R59). -/
@[simp] theorem foldl_handItem_frame (k : Nat) (l : List Item) (s : State) :
    (l.foldl (handItem k) s).pins = s.pins ∧ (l.foldl (handItem k) s).inReset = s.inReset ∧
    (l.foldl (handItem k) s).profile = s.profile ∧ (l.foldl (handItem k) s).timebase = s.timebase ∧
    (l.foldl (handItem k) s).channels = s.channels ∧ (l.foldl (handItem k) s).cycle = s.cycle ∧
    (l.foldl (handItem k) s).hold = s.hold ∧ (l.foldl (handItem k) s).port = s.port ∧
    (l.foldl (handItem k) s).freeCount = s.freeCount ∧ (l.foldl (handItem k) s).pending = s.pending :=
      ⟨foldl_keeps State.pins (fun s x => by simp) _ _, foldl_keeps State.inReset (fun s x => by simp) _ _,
      foldl_keeps State.profile (fun s x => by simp) _ _, foldl_keeps State.timebase (fun s x => by simp) _ _,
      foldl_keeps State.channels (fun s x => by simp) _ _, foldl_keeps State.cycle (fun s x => by simp) _ _,
      foldl_keeps State.hold (fun s x => by simp) _ _, foldl_keeps State.port (fun s x => by simp) _ _,
      foldl_keeps State.freeCount (fun s x => by simp) _ _, foldl_keeps State.pending (fun s x => by simp) _ _⟩

/-- The items of a frame (R59). -/
@[simp] theorem handItems_frame (f : Frame) (s : State) :
    (handItems f s).pins = s.pins ∧ (handItems f s).inReset = s.inReset ∧ (handItems f s).profile = s.profile ∧
    (handItems f s).timebase = s.timebase ∧ (handItems f s).channels = s.channels ∧
    (handItems f s).cycle = s.cycle ∧ (handItems f s).hold = s.hold ∧ (handItems f s).port = s.port ∧
    (handItems f s).freeCount = s.freeCount ∧ (handItems f s).pending = s.pending := by
  unfold handItems
  split <;> simp

/-- A valid frame leaves the channels, the hold unit, the port and the pins alone (R59). -/
@[simp] theorem takeValid_frame (r : Reception) (f : Frame) (s : State) :
    (takeValid r f s).pins = s.pins ∧ (takeValid r f s).inReset = s.inReset ∧
    (takeValid r f s).profile = s.profile ∧ (takeValid r f s).channels = s.channels ∧
    (takeValid r f s).hold = s.hold ∧ (takeValid r f s).port = s.port ∧ (takeValid r f s).freeCount = s.freeCount ∧
    (takeValid r f s).pending = s.pending := by simp [takeValid]

/-- A frame judged where rounds run touches what a valid frame touches (R51). -/
@[simp] theorem takeInRound_frame (r : Reception) (f : Frame) (s : State) :
    (takeInRound r f s).pins = s.pins ∧ (takeInRound r f s).inReset = s.inReset ∧
    (takeInRound r f s).profile = s.profile ∧ (takeInRound r f s).channels = s.channels ∧
    (takeInRound r f s).hold = s.hold ∧ (takeInRound r f s).port = s.port ∧
    (takeInRound r f s).freeCount = s.freeCount ∧ (takeInRound r f s).pending = s.pending := by
  unfold takeInRound
  repeat' split
  all_goals simp

/-- A frame taken for joining (R22). -/
@[simp] theorem takeForJoining_frame (a : Octet) (r : Reception) (f : Frame) (s : State) :
    (takeForJoining a r f s).pins = s.pins ∧ (takeForJoining a r f s).inReset = s.inReset ∧
    (takeForJoining a r f s).profile = s.profile ∧ (takeForJoining a r f s).port = s.port ∧
    (takeForJoining a r f s).pending = s.pending := by
  simp only [takeForJoining]
  split <;> simp

/-- A frame taken in LISTEN (R20). -/
@[simp] theorem takeInListen_frame (a : Octet) (r : Reception) (f : Frame) (s : State) :
    (takeInListen a r f s).pins = s.pins ∧ (takeInListen a r f s).inReset = s.inReset ∧
    (takeInListen a r f s).profile = s.profile ∧ (takeInListen a r f s).port = s.port ∧
    (takeInListen a r f s).freeCount = s.freeCount ∧ (takeInListen a r f s).pending = s.pending := by
  unfold takeInListen
  split <;> simp

/-- A checked frame leaves the pins, the profile, the port and the queue alone. -/
@[simp] theorem takeChecked_frame (a : Octet) (r : Reception) (f : Frame) (s : State) :
    (takeChecked a r f s).pins = s.pins ∧ (takeChecked a r f s).inReset = s.inReset ∧
    (takeChecked a r f s).profile = s.profile ∧ (takeChecked a r f s).port = s.port ∧
    (takeChecked a r f s).pending = s.pending := by
  unfold takeChecked
  repeat' split
  all_goals simp

/-- A frame leaves the pins, the profile, the port and the queue alone (R48). -/
@[simp] theorem takeFrame_frame (a : Octet) (r : Reception) (f : Frame) (s : State) :
    (takeFrame a r f s).pins = s.pins ∧ (takeFrame a r f s).inReset = s.inReset ∧
    (takeFrame a r f s).profile = s.profile ∧ (takeFrame a r f s).port = s.port ∧
      (takeFrame a r f s).pending = s.pending := by
  unfold takeFrame
  repeat' split
  all_goals simp

/-- The end of a reception touches the round controller (R47). -/
@[simp] theorem endReception_frame (s : State) :
    (endReception s).pins = s.pins ∧ (endReception s).inReset = s.inReset ∧ (endReception s).profile = s.profile ∧
    (endReception s).timebase = s.timebase ∧ (endReception s).channels = s.channels ∧
    (endReception s).journal = s.journal ∧ (endReception s).action = s.action ∧ (endReception s).cycle = s.cycle ∧
    (endReception s).hold = s.hold ∧ (endReception s).request = s.request ∧ (endReception s).port = s.port ∧
    (endReception s).notice = s.notice ∧ (endReception s).freeCount = s.freeCount ∧
    (endReception s).pending = s.pending := by simp [endReception]

/-- A complete reception leaves the pins, the profile, the port and the queue alone (R47). -/
@[simp] theorem takeComplete_frame (o : List Octet) (a : Octet) (r : Reception) (s : State) :
    (takeComplete o a r s).pins = s.pins ∧ (takeComplete o a r s).inReset = s.inReset ∧
    (takeComplete o a r s).profile = s.profile ∧ (takeComplete o a r s).port = s.port ∧
    (takeComplete o a r s).pending = s.pending := by
  unfold takeComplete
  split <;> simp

/-- FRAME_COMPLETE leaves the pins, the profile, the port and the queue alone. -/
@[simp] theorem takeFrameComplete_frame (o : List Octet) (a : Octet) (s : State) :
    (takeFrameComplete o a s).pins = s.pins ∧ (takeFrameComplete o a s).inReset = s.inReset ∧
    (takeFrameComplete o a s).profile = s.profile ∧ (takeFrameComplete o a s).port = s.port ∧
    (takeFrameComplete o a s).pending = s.pending := by
  unfold takeFrameComplete
  repeat' split
  all_goals simp

/-- FRAME_FAILED leaves the pins, the profile, the port and the queue alone. -/
@[simp] theorem takeFrameFailed_frame (s : State) :
    (takeFrameFailed s).pins = s.pins ∧ (takeFrameFailed s).inReset = s.inReset ∧
    (takeFrameFailed s).profile = s.profile ∧ (takeFrameFailed s).port = s.port ∧
    (takeFrameFailed s).pending = s.pending := by
  unfold takeFrameFailed
  split <;> simp

/-- LINE_IDLE leaves the pins, the profile, the port and the queue alone. -/
@[simp] theorem takeLineIdle_frame (s : State) :
    (takeLineIdle s).pins = s.pins ∧ (takeLineIdle s).inReset = s.inReset ∧ (takeLineIdle s).profile = s.profile ∧
    (takeLineIdle s).port = s.port ∧ (takeLineIdle s).pending = s.pending := by
  unfold takeLineIdle
  repeat' split
  all_goals simp

end Sys2Proof.Machine
end

