-- ==== Sys2Proof/Laws/Clock.lean ====
section
/-! SUPPORT. What each operation of capture and the clock leaves alone. -/

namespace Sys2Proof.Machine

/-- The second delivery of a mark (R70). -/
@[simp] theorem publishMark_frame (g : CaptureCfg) (c : Nat) (m : Mark) (s : State) :
    (publishMark g c m s).pins = s.pins ∧ (publishMark g c m s).inReset = s.inReset ∧
    (publishMark g c m s).profile = s.profile ∧ (publishMark g c m s).timebase = s.timebase ∧
    (publishMark g c m s).journal = s.journal ∧ (publishMark g c m s).action = s.action ∧
    (publishMark g c m s).cycle = s.cycle ∧ (publishMark g c m s).hold = s.hold ∧
    (publishMark g c m s).request = s.request ∧ (publishMark g c m s).port = s.port ∧
    (publishMark g c m s).freeCount = s.freeCount ∧ (publishMark g c m s).pending = s.pending := by
  unfold publishMark
  split <;> simp

/-- The third delivery of a mark (R71). -/
@[simp] theorem matchMark_frame (m : Mark) (s : State) :
    (matchMark m s).pins = s.pins ∧ (matchMark m s).inReset = s.inReset ∧ (matchMark m s).profile = s.profile ∧
    (matchMark m s).timebase = s.timebase ∧ (matchMark m s).channels = s.channels ∧
    (matchMark m s).cycle = s.cycle ∧ (matchMark m s).hold = s.hold ∧ (matchMark m s).request = s.request ∧
    (matchMark m s).port = s.port ∧ (matchMark m s).freeCount = s.freeCount ∧ (matchMark m s).pending = s.pending := by
  unfold matchMark
  split <;> simp

/-- The three deliveries of a mark (R69 to R71). -/
@[simp] theorem deliverMark_frame (g : CaptureCfg) (c : Nat) (b : Bool) (m : Mark) (s : State) :
    (deliverMark g c b m s).pins = s.pins ∧ (deliverMark g c b m s).inReset = s.inReset ∧
    (deliverMark g c b m s).profile = s.profile ∧ (deliverMark g c b m s).timebase = s.timebase ∧
    (deliverMark g c b m s).cycle = s.cycle ∧ (deliverMark g c b m s).hold = s.hold ∧
    (deliverMark g c b m s).request = s.request ∧ (deliverMark g c b m s).port = s.port ∧
    (deliverMark g c b m s).freeCount = s.freeCount ∧ (deliverMark g c b m s).pending = s.pending := by
  simp only [deliverMark]
  split <;> simp

/-- An accepted edge touches its channel and what a mark is delivered to (R66). -/
@[simp] theorem takeEdgeOf_frame (c : Nat) (g : CaptureCfg) (b : Bool) (h : Channel) (s : State) :
    (takeEdgeOf c g b h s).pins = s.pins ∧ (takeEdgeOf c g b h s).inReset = s.inReset ∧
    (takeEdgeOf c g b h s).profile = s.profile ∧ (takeEdgeOf c g b h s).timebase = s.timebase ∧
    (takeEdgeOf c g b h s).cycle = s.cycle ∧ (takeEdgeOf c g b h s).hold = s.hold ∧
    (takeEdgeOf c g b h s).request = s.request ∧ (takeEdgeOf c g b h s).port = s.port ∧
    (takeEdgeOf c g b h s).freeCount = s.freeCount ∧ (takeEdgeOf c g b h s).pending = s.pending := by
  simp only [takeEdgeOf]
  repeat' split
  all_goals simp

/-- EDGE_ACCEPTED touches its channel and what a mark is delivered to. -/
@[simp] theorem takeEdge_frame (c : Nat) (b : Bool) (s : State) :
    (takeEdge c b s).pins = s.pins ∧ (takeEdge c b s).inReset = s.inReset ∧ (takeEdge c b s).profile = s.profile ∧
    (takeEdge c b s).timebase = s.timebase ∧ (takeEdge c b s).cycle = s.cycle ∧ (takeEdge c b s).hold = s.hold ∧
    (takeEdge c b s).request = s.request ∧ (takeEdge c b s).port = s.port ∧
    (takeEdge c b s).freeCount = s.freeCount ∧ (takeEdge c b s).pending = s.pending := by
  unfold takeEdge
  repeat' split
  all_goals simp

/-- ANSWER_READY touches the port (R181). -/
@[simp] theorem takeAnswerReady_frame (b : Bool) (s : State) :
    (takeAnswerReady b s).pins = s.pins ∧ (takeAnswerReady b s).inReset = s.inReset ∧
    (takeAnswerReady b s).profile = s.profile ∧ (takeAnswerReady b s).timebase = s.timebase ∧
    (takeAnswerReady b s).roundCtl = s.roundCtl ∧ (takeAnswerReady b s).channels = s.channels ∧
    (takeAnswerReady b s).journal = s.journal ∧ (takeAnswerReady b s).action = s.action ∧
    (takeAnswerReady b s).cycle = s.cycle ∧ (takeAnswerReady b s).hold = s.hold ∧
    (takeAnswerReady b s).request = s.request ∧ (takeAnswerReady b s).notice = s.notice ∧
    (takeAnswerReady b s).freeCount = s.freeCount ∧ (takeAnswerReady b s).pending = s.pending := by
  unfold takeAnswerReady
  repeat' split
  all_goals simp

/-- The capture of a READ_TIME's values touches the port (R15). -/
@[simp] theorem captureTime_frame (s : State) :
    (captureTime s).pins = s.pins ∧ (captureTime s).inReset = s.inReset ∧ (captureTime s).profile = s.profile ∧
    (captureTime s).timebase = s.timebase ∧ (captureTime s).roundCtl = s.roundCtl ∧
    (captureTime s).channels = s.channels ∧ (captureTime s).journal = s.journal ∧
    (captureTime s).action = s.action ∧ (captureTime s).cycle = s.cycle ∧ (captureTime s).hold = s.hold ∧
    (captureTime s).request = s.request ∧ (captureTime s).notice = s.notice ∧
    (captureTime s).freeCount = s.freeCount ∧ (captureTime s).pending = s.pending ∧
    (captureTime s).port.timeDue = false := by
  unfold captureTime
  split
  · simp [Port.capturing]
  · simp_all

/-- With no capture due nothing is captured. -/
@[simp] theorem captureTime_none {s : State} (h : s.port.timeDue = false) : captureTime s = s := by
  simp [captureTime, h]

/-- An answer not yet ready takes the values that the timebase has as the step ends (R15). -/
theorem captureTime_answer {s : State} {at' : Nat} {old : List Octet} (h : s.port.timeDue = true)
    (ht : s.port.transaction = .answer at' false old) :
    captureTime s =
      { s with port :=
          { s.port with timeDue := false, transaction := .answer at' false (Code.done :: timeData s.timebase) } } := by
  simp [captureTime, h, portUpdate, Port.capturing, ht]

end Sys2Proof.Machine
end

