-- ==== Sys2Proof/Laws/PerInstr.lean ====
section
/-! SUPPORT. Per command: the octets of a command row are a command octet and as many operand octets as the manual gives the
command, and a row of an event has none. -/

namespace Sys2Proof.Laws.Shape

open Sys2Proof.Machine

/-- A well-formed command row is spelled by its command octet and the operand octets of R186; an octet that names no command
stands alone (R184). -/
def Statement (i : Instr) : Prop :=
  ∀ os, i.wire = some os → i.wellFormed = true →
    ∃ first rest, os = first :: rest ∧ (∀ cmd, Cmd.ofOctet first = some cmd → rest.length = cmd.operandCount) ∧
      (Cmd.ofOctet first = none → rest = [])

/-- A row whose octets have the length of its command. -/
theorem of_command {i : Instr} (cmd : Cmd) (first : Octet) (rest : List Octet) (hw : i.wire = some (first :: rest))
    (hc : Cmd.ofOctet first = some cmd) (hl : i.wellFormed = true → rest.length = cmd.operandCount) : Statement i := by
  intro os h hf
  rw [hw] at h
  refine ⟨first, rest, (Option.some.inj h).symm, fun c h' => ?_, fun h' => ?_⟩
  · rw [hc] at h'; rw [← Option.some.inj h']; exact hl hf
  · rw [hc] at h'; cases h'

/-- A row of an event has no octets. -/
theorem of_event {i : Instr} (hw : i.wire = none) : Statement i := by
  intro os h
  rw [hw] at h
  cases h

theorem reset : Statement .reset := of_event rfl

theorem adjustedStep (lines : Octet) (hold : Level) : Statement (.adjustedStep lines hold) := of_event rfl

theorem listenTimerExpiry : Statement .listenTimerExpiry := of_event rfl

theorem roundEnd (order : RoundOrder) : Statement (.roundEnd order) := of_event rfl

theorem ownSendInstant : Statement .ownSendInstant := of_event rfl

theorem collision : Statement .collision := of_event rfl

theorem frameSentWhole : Statement .frameSentWhole := of_event rfl

theorem frameComplete (received : ReceivedFrame) : Statement (.frameComplete received) :=
  of_event rfl

theorem frameFailed : Statement .frameFailed := of_event rfl

theorem edgeAccepted (channel : Nat) (matcherFirst : Bool) : Statement (.edgeAccepted channel matcherFirst) := of_event rfl

theorem holdLineAccepted : Statement .holdLineAccepted := of_event rfl

theorem fire : Statement .fire := of_event rfl

theorem pulseEnd (index : Nat) : Statement (.pulseEnd index) := of_event rfl

theorem expiry (index : Nat) : Statement (.expiry index) := of_event rfl

theorem cyclicFire : Statement .cyclicFire := of_event rfl

theorem cyclicPulseEnd (place : Nat) : Statement (.cyclicPulseEnd place) := of_event rfl

theorem transactionStart : Statement .transactionStart := of_event rfl

theorem transactionEnd : Statement .transactionEnd := of_event rfl

theorem answerReady (octetBegun : Bool) : Statement (.answerReady octetBegun) := of_event rfl

theorem loadProfile (profile : List Octet) : Statement (.loadProfile profile) :=
    of_command .loadProfile 0x10 (profile) rfl rfl (fun h => by simpa [Instr.wellFormed, Cmd.operandCount] using h)

theorem start : Statement .start := of_command .start 0x11 [] rfl rfl (fun _ => rfl)

theorem status : Statement .status := of_command .status 0x12 [] rfl rfl (fun _ => rfl)

theorem readTime : Statement .readTime := of_command .readTime 0x13 [] rfl rfl (fun _ => rfl)

theorem readPeer (station : Octet) : Statement (.readPeer station) :=
    of_command .readPeer 0x14 [station] rfl rfl (fun _ => rfl)

theorem readChannel (channel : Octet) : Statement (.readChannel channel) :=
    of_command .readChannel 0x15 [channel] rfl rfl (fun _ => rfl)

theorem readProfile : Statement .readProfile := of_command .readProfile 0x16 [] rfl rfl (fun _ => rfl)

theorem arm (channel : Octet) (fields : List Octet) : Statement (.arm channel fields) :=
    of_command .arm 0x20 (channel :: fields) rfl rfl (fun h => by simpa [Instr.wellFormed, Cmd.operandCount] using h)

theorem cancel (index tag : Octet) : Statement (.cancel index tag) :=
    of_command .cancel 0x21 [index, tag] rfl rfl (fun _ => rfl)

theorem readEntry (index : Octet) : Statement (.readEntry index) := of_command .readEntry 0x22 [index] rfl rfl (fun _ => rfl)

theorem armRemote (target channel : Octet) (fields : List Octet) : Statement (.armRemote target channel fields) :=
    of_command .armRemote 0x30 (target :: channel :: fields) rfl rfl (fun h => by simpa [Instr.wellFormed,
    Cmd.operandCount] using h)

theorem cancelRemote (tag : Octet) : Statement (.cancelRemote tag) :=
    of_command .cancelRemote 0x31 [tag] rfl rfl (fun _ => rfl)

theorem readOutbound : Statement .readOutbound := of_command .readOutbound 0x32 [] rfl rfl (fun _ => rfl)

theorem stageEntry (index : Octet) (entry : List Octet) : Statement (.stageEntry index entry) :=
    of_command .stageEntry 0x40 (index :: entry) rfl rfl (fun h => by simpa [Instr.wellFormed,
    Cmd.operandCount] using h)

theorem clearStaged (first count : Octet) : Statement (.clearStaged first count) :=
    of_command .clearStaged 0x41 [first, count] rfl rfl (fun _ => rfl)

theorem markReady : Statement .markReady := of_command .markReady 0x42 [] rfl rfl (fun _ => rfl)

theorem readBank (bank first count : Octet) : Statement (.readBank bank first count) :=
    of_command .readBank 0x43 [bank, first, count] rfl rfl (fun _ => rfl)

theorem proposeSwap (round : Word16) : Statement (.proposeSwap round) :=
    of_command .proposeSwap 0x44 (le 2 round.toNat) rfl rfl (fun _ => rfl)

theorem ringStatus (ring : Octet) : Statement (.ringStatus ring) := of_command .ringStatus 0x50 [ring] rfl rfl (fun _ => rfl)

theorem readRing (ring k : Octet) : Statement (.readRing ring k) := of_command .readRing 0x51 [ring, k] rfl rfl (fun _ => rfl)

theorem releaseRing (ring : Octet) (n : Word16) : Statement (.releaseRing ring n) :=
    of_command .releaseRing 0x52 (ring :: le 2 n.toNat) rfl rfl (fun _ => rfl)

theorem hold : Statement .hold := of_command .hold 0x60 [] rfl rfl (fun _ => rfl)

theorem release : Statement .release := of_command .release 0x61 [] rfl rfl (fun _ => rfl)

theorem readNotices : Statement .readNotices := of_command .readNotices 0x70 [] rfl rfl (fun _ => rfl)

theorem ackNotices (causes : Word16) : Statement (.ackNotices causes) :=
    of_command .ackNotices 0x71 (le 2 causes.toNat) rfl rfl (fun _ => rfl)

theorem setNoticeMask (causes : Word16) : Statement (.setNoticeMask causes) :=
    of_command .setNoticeMask 0x72 (le 2 causes.toNat) rfl rfl (fun _ => rfl)

theorem softReset : Statement .softReset := of_command .softReset 0x7F [] rfl rfl (fun _ => rfl)

theorem unknownCommand (octet : Octet) : Statement (.unknownCommand octet) := by
  intro os h hf
  refine ⟨octet, [], (Option.some.inj h).symm, fun c h' => ?_, fun _ => rfl⟩
  exfalso
  have key : ∀ o : Octet, (Instr.unknownCommand o).wellFormed = true → Cmd.ofOctet o = none := by decide +kernel
  rw [key octet hf] at h'
  cases h'

theorem referencePeriod (lines : Octet) (hold : Level) : Statement (.referencePeriod lines hold) := of_event rfl

theorem receptionStart : Statement .receptionStart := of_event rfl

theorem lineIdle : Statement .lineIdle := of_event rfl

theorem resetAsserted : Statement .resetAsserted := of_event rfl

theorem portOctet (sdi : Octet) : Statement (.portOctet sdi) := of_event rfl

end Sys2Proof.Laws.Shape
end

