-- ==== Sys2Proof/Laws/Port.lean ====
section
/-! SUPPORT. What the taking of a command leaves: the owner's effect, and the port in ANSWER. -/

namespace Sys2Proof.Machine

/-- The channel units at START touch the channel units (R73, R141). -/
@[simp] theorem foldl_startChannel_frame (l : List Nat) (s : State) :
    (l.foldl startChannel s).pins = s.pins ∧ (l.foldl startChannel s).inReset = s.inReset ∧
    (l.foldl startChannel s).profile = s.profile ∧ (l.foldl startChannel s).timebase = s.timebase ∧
    (l.foldl startChannel s).roundCtl = s.roundCtl ∧ (l.foldl startChannel s).journal = s.journal ∧
    (l.foldl startChannel s).action = s.action ∧ (l.foldl startChannel s).cycle = s.cycle ∧
    (l.foldl startChannel s).hold = s.hold ∧ (l.foldl startChannel s).request = s.request ∧
    (l.foldl startChannel s).port = s.port ∧ (l.foldl startChannel s).notice = s.notice ∧
    (l.foldl startChannel s).freeCount = s.freeCount ∧ (l.foldl startChannel s).pending = s.pending := by
  exact ⟨foldl_keeps State.pins (fun s x => by simp) _ s, foldl_keeps State.inReset (fun s x => by simp) _ s,
    foldl_keeps State.profile (fun s x => by simp) _ s, foldl_keeps State.timebase (fun s x => by simp) _ s,
    foldl_keeps State.roundCtl (fun s x => by simp) _ s, foldl_keeps State.journal (fun s x => by simp) _ s,
    foldl_keeps State.action (fun s x => by simp) _ s, foldl_keeps State.cycle (fun s x => by simp) _ s,
    foldl_keeps State.hold (fun s x => by simp) _ s, foldl_keeps State.request (fun s x => by simp) _ s,
    foldl_keeps State.port (fun s x => by simp) _ s, foldl_keeps State.notice (fun s x => by simp) _ s,
    foldl_keeps State.freeCount (fun s x => by simp) _ s, foldl_keeps State.pending (fun s x => by simp) _ s⟩

/-- START leaves the instants, the transaction and what stands outside the blocks (R189). -/
@[simp] theorem startStation_frame (os : List Octet) (s : State) :
    (startStation os s).pins = s.pins ∧ (startStation os s).inReset = s.inReset ∧
    (startStation os s).timebase.stepNo = s.timebase.stepNo ∧ (startStation os s).timebase.nt = s.timebase.nt ∧
    (startStation os s).freeCount = s.freeCount ∧ (startStation os s).pending = s.pending ∧
    (startStation os s).port = { s.port with started := true } ∧ (startStation os s).request = s.request := by
  simp [startStation, enterSync, timeUpdate]

/-- A taken command leaves the instants, the transaction and what stands outside the blocks. -/
@[simp] theorem takeCommand_frame (cmd : Cmd) (ops : List Octet) (s : State) :
    (takeCommand cmd ops s).1.pins = s.pins ∧ (takeCommand cmd ops s).1.inReset = s.inReset ∧
    (takeCommand cmd ops s).1.timebase.stepNo = s.timebase.stepNo ∧
    (takeCommand cmd ops s).1.timebase.nt = s.timebase.nt ∧
    (takeCommand cmd ops s).1.freeCount = s.freeCount ∧ (takeCommand cmd ops s).1.pending = s.pending ∧
    (takeCommand cmd ops s).1.port.transaction = s.port.transaction ∧
    (takeCommand cmd ops s).1.port.sdo = s.port.sdo ∧
    (takeCommand cmd ops s).1.port.octetCount = s.port.octetCount ∧
    (takeCommand cmd ops s).1.port.previousShort = s.port.previousShort := by
  cases cmd <;> simp only [takeCommand, takeLoadProfile, takeStart, takeStatus, takeReadTime, takeReadPeer,
    takeReadChannel, takeReadProfile, takeArm, armLocally, createEntry, takeCancel, cancelEntry, takeReadEntry,
    takeArmRemote, takeCancelRemote, cancelRecord, offerCancel, offerRequest, withdrawArm, takeReadOutbound,
    takeStageEntry, takeClearStaged, takeMarkReady, takeReadBank, takeProposeSwap, takeRingStatus, takeReadRing,
    takeReleaseRing, takeHold, takeRelease, takeReadNotices, takeAckNotices, takeSetNoticeMask, takeSoftReset]
  all_goals (repeat' split)
  all_goals simp_all
  all_goals grind [setQueue_frame, completeRecord_frame]

/-- A command row with all its operand octets, taken while the command octet of a transaction is being clocked in: its
owner acts, and the port stands in ANSWER (R181), with the capture due for READ_TIME (R15). -/
theorem portCommand_open {s : State} (cmd : Cmd) (ops : List Octet) (ho : s.portOpen)
    (hl : ops.length = cmd.operandCount) :
    portCommand cmd ops s =
      (let t := (takeCommand cmd ops s).1.answering (1 + ops.length) cmd.periods (takeCommand cmd ops s).2.code
        (takeCommand cmd ops s).2.data
      if cmd.capturesTime then t.capturing else t) := by
  obtain ⟨h1, h2⟩ := ho
  have hle : cmd.operandCount ≤ ops.length := Nat.le_of_eq hl.symm
  have htake : ops.take cmd.operandCount = ops := by rw [← hl, List.take_length]
  simp only [portCommand, h1, openFor, h2, takeOperands, if_pos hle, htake, takeWhole, portUpdate, Port.taken,
    State.answering, State.capturing, takeCommand_frame, Bool.false_eq_true, if_false]
  cases cmd.capturesTime <;> rfl

end Sys2Proof.Machine
end

