-- ==== Sys2Proof/Laws/Table.lean ====
section
/-! SUPPORT. What tables, orders, octet fields and the journal memory give back. -/

namespace Sys2Proof.Machine

/-! ### Tables -/

@[simp] theorem tableUpdate_get_self {α : Type} {n : Nat} (v : Vector α n) (i : Nat) (f : α → α) :
    (tableUpdate v i f)[i]? = v[i]?.map f := by
  unfold tableUpdate
  split
  · rename_i h; simp [h]
  · rename_i h; simp [h]

theorem tableUpdate_get_ne {α : Type} {n : Nat} (v : Vector α n) (i j : Nat) (f : α → α) (h : j ≠ i) :
    (tableUpdate v i f)[j]? = v[j]? := by
  unfold tableUpdate
  split
  · rw [Vector.getElem?_set_ne]; exact fun e => h e.symm
  · rfl

theorem tableUpdate_get {α : Type} {n : Nat} (v : Vector α n) (i j : Nat) (f : α → α) :
    (tableUpdate v i f)[j]? = if j = i then v[j]?.map f else v[j]? := by
  split
  · rename_i h; subst h; exact tableUpdate_get_self v j f
  · rename_i h; exact tableUpdate_get_ne v i j f h

@[simp] theorem tableMap_get {α β : Type} {n : Nat} (f : α → β) (v : Vector α n) (i : Nat) :
    (tableMap f v)[i]? = v[i]?.map f := by
  obtain ⟨⟨l⟩, h⟩ := v
  simp [tableMap]

/-- The places found are those whose content satisfies the test. -/
theorem mem_placesWhere {α : Type} {n : Nat} {v : Vector α n} {p : α → Bool} {i : Nat} :
    i ∈ placesWhere v p ↔ ∃ x, v[i]? = some x ∧ p x = true := by
  simp only [placesWhere, List.mem_filter, List.mem_range, Option.any_eq_true]
  constructor
  · exact fun h => h.2
  · rintro ⟨x, hx, hp⟩
    refine ⟨?_, x, hx, hp⟩
    rcases Nat.lt_or_ge i n with hi | hi
    · exact hi
    · simp [Nat.not_lt.2 hi] at hx

/-! ### Orders -/

theorem insertOrdered_perm {α : Type} (r : α → α → Bool) (x : α) : ∀ l, (insertOrdered r x l).Perm (x :: l)
  | [] => List.Perm.refl _
  | y :: ys => by
    unfold insertOrdered
    split
    · exact List.Perm.refl _
    · exact ((insertOrdered_perm r x ys).cons y).trans (List.Perm.swap x y ys)

/-- Ordering a list rearranges it. -/
theorem sortOrdered_perm {α : Type} (r : α → α → Bool) (l : List α) : (sortOrdered r l).Perm l := by
  unfold sortOrdered
  have h : ∀ (l acc : List α), (l.foldl (fun acc x => insertOrdered r x acc) acc).Perm (acc ++ l) := by
    intro l
    induction l with
    | nil => intro acc; simp
    | cons x l ih =>
      intro acc
      refine (ih _).trans ?_
      exact ((insertOrdered_perm r x acc).append_right l).trans (List.perm_middle.symm)
  simpa using h l []

/-! ### The journal memory -/

theorem Memory.read_cons (b : Nat) (w : Octet) (m : List Host.Cell) (a : Nat) :
    Memory.read ((b, w) :: m) a = if a = b then w else Memory.read m a := rfl

/-- Below every listed address the memory reads as unlisted. -/
theorem Memory.read_low (a : Nat) : ∀ (m : List Host.Cell), (∀ c ∈ m, a < c.1) → Memory.read m a = Memory.unlisted
  | [], _ => rfl
  | (b, w) :: m, h => by
    have hb : a < b := h (b, w) (by simp)
    rw [Memory.read_cons, if_neg (by omega)]
    exact Memory.read_low a m fun c hc => h c (by simp [hc])

/-- A write lists no address beyond those listed and its own. -/
theorem Memory.write_addresses (a : Nat) (v : Octet) :
    ∀ (m : List Host.Cell), ∀ c ∈ Memory.write m a v, c.1 = a ∨ c ∈ m
  | [], c, hc => by
    unfold Memory.write at hc
    split at hc <;> simp_all
  | (b, w) :: m, c, hc => by
    unfold Memory.write at hc
    split at hc
    · split at hc <;> simp_all
      grind
    · split at hc
      · split at hc <;> simp_all
        grind
      · simp only [List.mem_cons] at hc ⊢
        rcases hc with rfl | hc
        · simp
        · rcases Memory.write_addresses a v m c hc with h | h <;> simp [h]

/-- A write keeps the canonical form. -/
theorem Memory.write_wf (a : Nat) (v : Octet) : ∀ (m : List Host.Cell), Memory.wf m → Memory.wf (Memory.write m a v)
  | [], _ => by
    unfold Memory.write
    split <;> simp_all [Memory.wf]
  | (b, w) :: m, ⟨hp, hn⟩ => by
    rw [List.pairwise_cons] at hp
    have hm : Memory.wf m := ⟨hp.2, fun c hc => hn c (by simp [hc])⟩
    have ih := Memory.write_wf a v m hm
    have hbw : w ≠ Memory.unlisted := hn (b, w) (by simp)
    unfold Memory.write
    split
    · rename_i hab
      split
      · exact ⟨List.pairwise_cons.2 hp, hn⟩
      · rename_i hv
        refine ⟨List.pairwise_cons.2 ⟨?_, List.pairwise_cons.2 hp⟩, ?_⟩
        · intro c hc
          simp only [List.mem_cons] at hc
          rcases hc with rfl | hc
          · exact hab
          · exact Nat.lt_trans hab (hp.1 c hc)
        · intro c hc
          simp only [List.mem_cons] at hc
          rcases hc with rfl | rfl | hc
          · exact hv
          · exact hbw
          · exact hm.2 c hc
    · rename_i hab
      split
      · rename_i he
        split
        · exact hm
        · rename_i hv
          refine ⟨List.pairwise_cons.2 ⟨fun c hc => he ▸ hp.1 c hc, hp.2⟩, ?_⟩
          intro c hc
          simp only [List.mem_cons] at hc
          rcases hc with rfl | hc
          · exact hv
          · exact hm.2 c hc
      · rename_i he
        refine ⟨List.pairwise_cons.2 ⟨?_, ih.1⟩, ?_⟩
        · intro c hc
          rcases Memory.write_addresses a v m c hc with h | h
          · rw [h]; show b < a; omega
          · exact hp.1 c h
        · intro c hc
          simp only [List.mem_cons] at hc
          rcases hc with rfl | hc
          · exact hbw
          · exact ih.2 c hc

/-- The octet written is read back at its address, and every other address reads as before. -/
theorem Memory.read_write (a : Nat) (v : Octet) (x : Nat) :
    ∀ (m : List Host.Cell), Memory.wf m →
      Memory.read (Memory.write m a v) x = if x = a then v else Memory.read m x
  | [], _ => by
    unfold Memory.write
    split <;> simp_all [Memory.read]
  | (b, w) :: m, ⟨hp, hn⟩ => by
    rw [List.pairwise_cons] at hp
    have hm : Memory.wf m := ⟨hp.2, fun c hc => hn c (by simp [hc])⟩
    have ih := Memory.read_write a v x m hm
    have hlow : ∀ y, y ≤ b → y ≠ b → Memory.read m y = Memory.unlisted := fun y hy hy' =>
      Memory.read_low y m fun c hc => Nat.lt_of_le_of_lt hy (hp.1 c hc)
    have hlow' : Memory.read m b = Memory.unlisted := Memory.read_low b m hp.1
    unfold Memory.write
    split
    · rename_i hab
      split
      · rename_i hv
        by_cases hx : x = a
        · subst hx
          rw [Memory.read_cons, if_neg (by omega), if_pos rfl, hv]
          exact hlow x (by omega) (by omega)
        · rw [if_neg hx]
      · rw [Memory.read_cons]
    · rename_i hab
      split
      · rename_i he
        subst he
        split
        · rename_i hv
          by_cases hx : x = a
          · subst hx; rw [if_pos rfl, hv]; exact hlow'
          · rw [if_neg hx, Memory.read_cons, if_neg hx]
        · by_cases hx : x = a
          · subst hx; rw [Memory.read_cons, if_pos rfl, if_pos rfl]
          · rw [Memory.read_cons, if_neg hx, if_neg hx, Memory.read_cons, if_neg hx]
      · rw [Memory.read_cons, Memory.read_cons, ih]
        by_cases hx : x = b
        · subst hx
          rw [if_pos rfl, if_neg (by omega), if_pos rfl]
        · rw [if_neg hx, if_neg hx]

/-- Writing octets keeps the canonical form. -/
theorem Memory.writeAll_wf : ∀ (vs : List Octet) (m : List Host.Cell) (a : Nat), Memory.wf m →
    Memory.wf (Memory.writeAll m a vs)
  | [], _, _, h => h
  | v :: vs, m, a, h => Memory.writeAll_wf vs (Memory.write m a v) (a + 1) (Memory.write_wf a v m h)

/-- Writing octets lists no address beyond those listed and those written. -/
theorem Memory.writeAll_addresses : ∀ (vs : List Octet) (m : List Host.Cell) (a : Nat),
    ∀ c ∈ Memory.writeAll m a vs, (a ≤ c.1 ∧ c.1 < a + vs.length) ∨ c ∈ m
  | [], _, _, _, hc => Or.inr hc
  | v :: vs, m, a, c, hc => by
    rcases Memory.writeAll_addresses vs (Memory.write m a v) (a + 1) c hc with h | h
    · left; simp only [List.length_cons]; omega
    · rcases Memory.write_addresses a v m c h with h | h
      · left; simp only [List.length_cons]; omega
      · exact Or.inr h

/-- What is read after octets are written from an address on. -/
theorem Memory.read_writeAll (x : Nat) : ∀ (vs : List Octet) (m : List Host.Cell) (a : Nat), Memory.wf m →
    Memory.read (Memory.writeAll m a vs) x =
      if a ≤ x ∧ x < a + vs.length then vs.getD (x - a) 0 else Memory.read m x
  | [], m, a, _ => by
    simp only [Memory.writeAll, List.length_nil]
    rw [if_neg (by omega)]
  | v :: vs, m, a, h => by
    show Memory.read (Memory.writeAll (Memory.write m a v) (a + 1) vs) x = _
    rw [Memory.read_writeAll x vs _ (a + 1) (Memory.write_wf a v m h), Memory.read_write a v x m h]
    simp only [List.length_cons]
    by_cases h1 : a + 1 ≤ x ∧ x < a + 1 + vs.length
    · rw [if_pos h1, if_pos (by omega)]
      obtain ⟨k, rfl⟩ : ∃ k, x = a + 1 + k := ⟨x - (a + 1), by omega⟩
      have e1 : a + 1 + k - (a + 1) = k := by omega
      have e2 : a + 1 + k - a = k + 1 := by omega
      rw [e1, e2, List.getD_cons_succ]
    · rw [if_neg h1]
      by_cases h2 : x = a
      · subst h2; rw [if_pos rfl, if_pos (by omega)]; simp
      · rw [if_neg h2, if_neg (by omega)]

end Sys2Proof.Machine
end

