-- ==== Sys2Proof/Tests/Slice0.lean ====
section
/-! SUPPORT. Tests: the well-formedness checks, worked examples of the manual, and for each statement a state and operands
that meet its hypotheses. -/

namespace Sys2Proof.Tests

open Sys2Proof.Machine

/-! ### Ill-formed commands are refused -/

theorem test_short_frame_ill_formed : (Instr.frameComplete ⟨zeros 27, 0⟩).wellFormed = false := by decide
theorem test_long_frame_ill_formed : (Instr.frameComplete ⟨zeros 541, 0⟩).wellFormed = false := by decide +kernel
theorem test_round_end_33_fires_ill_formed :
    (Instr.roundEnd { defaultOrder with release := .roundStartFirst 33 }).wellFormed = false := by decide
theorem test_channel_8_ill_formed : (Instr.edgeAccepted 8 false).wellFormed = false := by decide
theorem test_pulse_end_48_ill_formed : (Instr.pulseEnd 48).wellFormed = false := by decide
theorem test_expiry_48_ill_formed : (Instr.expiry 48).wellFormed = false := by decide
theorem test_cyclic_end_40_ill_formed : (Instr.cyclicPulseEnd 40).wellFormed = false := by decide
theorem test_short_profile_ill_formed : (Instr.loadProfile (zeros 215)).wellFormed = false := by decide +kernel
theorem test_short_arm_ill_formed : (Instr.arm 1 (zeros 27)).wellFormed = false := by decide
theorem test_long_remote_arm_ill_formed : (Instr.armRemote 2 1 (zeros 29)).wellFormed = false := by decide
theorem test_short_cyclic_entry_ill_formed : (Instr.stageEntry 0 (zeros 11)).wellFormed = false := by decide
theorem test_named_command_not_unknown : (Instr.unknownCommand 0x7F).wellFormed = false := by decide
theorem test_unnamed_octet_is_unknown : (Instr.unknownCommand 0x00).wellFormed = true := by decide

/-! ### States -/

/-- A profile of four stations: channel 0 CAPTURE, channel 1 DRIVE, ring 0 of channel 0, ring 1 of reports. -/
def profileA : Profile :=
  { Profile.none with
    station := 1, stations := 4, period := 1000000, sendOffset := 2000, window := 500, corrLimit := 2000, minRefs := 2
    holdover := 8, bodyBudget := 64, replyDeadline := 3
    channels := #v[
      .capture { filterLen := 2, sampleExp := 0, edgeSel := .either, prescaler := 1, publish := true, ring := some 0 },
      .drive { rest := .low, safe := .low, permit := 0x4 }, .unused, .unused, .unused, .unused, .unused, .unused]
    rings := #v[some { base := 0, length := 4, source := .localChannel 0, low := 1 },
      some { base := 4, length := 4, source := .reports, low := 1 }, none, none, none, none, none, none] }

/-- A SYNCED, RELEASED station in round 10, with the command octet of a transaction being clocked in. -/
def live : State :=
  { State.reset with
    pins := { lines := 0, hold := .low, selLow := true }
    profile := profileA
    timebase := { Timebase.reset with sync := .synced, nt := 5000000, stepNo := 100, round := 10, rs := 4500000 }
    roundCtl := { RoundCtl.reset with receiver := .ready, sendTaken := true }
    channels := Vector.replicate 8 { Channel.reset with drive := { Channel.reset.drive with level := some .low, baseLevel := some .low, forced := false } }
    journal := { Journal.reset with rings := ringsAtStart profileA }
    action := { ActionUnit.reset with held := false }
    cycle := { CycleUnit.reset with held := false }
    hold := { HoldUnit.reset with held := false, reasonSync := false }
    port := { Port.reset with transaction := .command, started := true } }

/-- `live` in another synchronization state. -/
def liveIn (y : Sync) : State := { live with timebase := { live.timebase with sync := y } }

/-- `live`, HELD for the reason COMMAND. -/
def liveHeld : State :=
  { live with
    hold := { live.hold with held := true, reasonCommand := true }
    action := { live.action with held := true }
    cycle := { live.cycle with held := true } }

/-- The reset station with the command octet of a transaction being clocked in. -/
def fresh : State := { State.reset with port := { Port.reset with transaction := .command } }

/-- Octets 4 to 31 of an ARM item: AT, with a repeat count, an effect code, a level, a time, a width and an interval. -/
def armAt (effect repeats : Nat) (t width interval : Nat) : List Octet :=
  armFieldOctets
    { trigger := .atTime (BitVec.ofNat 48 t) (BitVec.ofNat 32 interval), effect := effect, level := .high,
      repeats := repeats, expiry := none, width := BitVec.ofNat 32 width }

/-- Octets 4 to 31 of an ARM item: ON_MARK of station 2, channel 0, either edge, with a SET HIGH. -/
def armOnMark : List Octet :=
  armFieldOctets
    { trigger := .onMark 2 0 2 5000 none, effect := 0, level := .high, repeats := 0, expiry := none, width := 0 }

/-- The 216 octets of a profile that passes every check. -/
def profileOctets : List Octet :=
  le 2 0x1234 ++ [1, 4] ++ le 4 1000000 ++ le 2 2000 ++ le 2 500 ++ le 2 2000 ++ [2, 8, 2, 0] ++ le 2 64 ++ [3, 0] ++
    le 2 0x7FFF ++ zeros 192

/-- An armed entry of station 1 on channel 1. -/
def entryA (trigger : Trigger) (effect : Effect) (remaining : Nat) (state : EntryState) : Entry :=
  { owner := 1, tag := 7, channel := 1, trigger := trigger, effect := effect, remaining := remaining, fireCount := 0,
    lastFire := none, expiry := none, armSeq := 0, lastUsed := none, state := state }

/-- `live` with an entry at index 0. -/
def liveWith (e : Entry) : State := setEntry 0 (some e) live

/-- A trigger on channel 0 of station 2. -/
def onMarkA : Trigger := .onMark 2 0 .either 5000 none

/-- `live` with an outbound record at place 0. -/
def liveAsking (state : OutState) : State :=
  setRecord 0
    (some { tag := 7, target := 2, channel := 1, state := state, cancelRequested := false, roundSent := some 9 }) live

/-- A frame of station 0 for round 10. -/
def frameA (items : List Item) : Frame :=
  { clusterTag := 0, sender := 0, startup := false, synced := true, holdover := false, held := false,
    swapSkipped := false, pendingSwap := none, generation := 0, round := 10, roundStart := 4500000, heard := 2,
    items := items }

/-- A mark of channel 0 of station 2. -/
def markA : Mark := { station := 2, channel := 0, edge := .rising, seq := 3, time := 4999000, unsynced := false }

/-- A reception of station 0's frame in the round that is current. -/
def receptionA : Reception := { observed := 4502000, epoch := 0, inRound := true, round := 10, rs := 4500000 }

/-- `live` with a reception under way. -/
def liveReceiving (y : Sync) : State :=
  { liveIn y with roundCtl := { live.roundCtl with receiver := .receiving receptionA } }

/-! ### Worked examples of the manual -/

theorem test_corrections_of_three_rounds :
    correctionOf [0, 150, -75, 50, 1200, -400, 25, 100] = 50 ∧ correctionOf [0, 80, -30] = 0 ∧
      correctionOf [0, -61] = -30 := by decide

/-- One instant on one channel (8.1): HIGH before, LOW after. -/
theorem test_one_instant_on_one_channel :
    let req (kind : ReqKind) (key : Nat) (level : Option Level) : LevelReq :=
      { kind := kind, due := 70000000, key := key, index := 0, level := level }
    { Channel.reset.drive with
      forced := false, baseLevel := some .high
      requests := [req .armedStart 310 (some .low), req .cyclicStart 2 none, req .armedEnd 305 (some .high),
        req .armedStart 308 (some .high), req .cyclicEnd 5 (some .low)] }.settled { rest := .low, safe := .low, permit := 0 } =
      some .low := by decide +kernel

/-- The check sequence over the octets of "123456789" is that of the common 32-bit generator. -/
theorem test_check_sequence :
    checkSequence [0x31, 0x32, 0x33, 0x34, 0x35, 0x36, 0x37, 0x38, 0x39] = [0x26, 0x39, 0xF4, 0xCB] := by decide +kernel

theorem test_frame_read_back :
    frameOf 64 (frameOctets (frameA [.mark markA, .cancel 1 7])) = some (frameA [.mark markA, .cancel 1 7]) := by
  decide +kernel

theorem test_garbled_octet_fails_check :
    frameOf 64 ((frameOctets (frameA [])).set 6 0xFF) = none := by decide +kernel

/-- The bank of 7.3's example, with index 9 as given and as staged anew. -/
def bankA (width : Word32) : Bank :=
  (((((emptyBank.set 0 (some { channel := 1, offset := 100000, effect := .pulse .high 50000, exp := 0, phase := 0 })).set 3
    (some { channel := 1, offset := 0, effect := .toggle, exp := 1, phase := 1 })).set 4
    (some { channel := 1, offset := 400000, effect := .set .low, exp := 2, phase := 2 })).set 7
    (some { channel := 1, offset := 400000, effect := .set .high, exp := 3, phase := 5 })).set 9
    (some { channel := 1, offset := 980000, effect := .pulse .high width, exp := 0, phase := 0 }))

theorem test_judging_a_staged_bank :
    stagedFault { live with cycle := { live.cycle with bankB := bankA 30000 } } = some (9, .pulseCrossesRound) ∧
      stagedFault { live with cycle := { live.cycle with bankB := bankA 19999 } } = none := by decide +kernel

theorem test_profile_accepted : profileOctets.length = 216 ∧ profileError profileOctets = none := by decide +kernel

theorem test_profile_of_one_station_refused : profileError (profileOctets.set 3 1) = some (1, 3) := by decide +kernel

/-- A local AT arm fires at its time and is then FREE. -/
theorem test_at_arm_fires :
    (match exec (.arm 1 (armAt 0 0 5002000 0 0)) live with
      | .next s =>
        match exec .fire { s with timebase := { s.timebase with nt := 5002000 } } with
        | .next t => some ((entryAt s 0).isSome, (entryAt t 0).isSome, (t.channels[1]?).bind fun c => c.drive.level)
        | .fault _ => none
        | .refused _ => none
      | .fault _ => none
      | .refused _ => none) = some (true, false, some .high) := by decide +kernel

/-- 40 MHz: a reference period is 25 ns. -/
theorem test_period_is_25_ns :
    (match exec (.referencePeriod 0 .low) live with
      | .next s => some s.timebase.nt
      | .fault _ => none
      | .refused _ => none) = some 5000025 := by decide +kernel

/-- An entry at a small offset above 0 fires in the round of the release, whichever order is taken (R130, R157). -/
theorem test_small_offset_fires_after_release :
    let s : State := { liveHeld with
      timebase := { live.timebase with nt := 5500010 }
      hold := { liveHeld.hold with releasePending := true }
      cycle := { liveHeld.cycle with
        bankA := emptyBank.set 0 (some { channel := 1, offset := 5, effect := .set .high, exp := 0, phase := 0 }) } }
    let t := takeDueCyclic (takeRoundEnd { defaultOrder with release := .roundStartFirst 32 } s)
    (t.channels[1]?).bind (fun c => c.drive.level) = some .high ∧ t.cycle.fireList = [] := by decide +kernel

/-! ### States that meet the hypotheses of the statements, clause by clause -/

theorem witness_live_open : live.portOpen := ⟨rfl, rfl⟩
theorem witness_fresh_open : fresh.portOpen := ⟨rfl, rfl⟩
theorem witness_liveHeld_open : liveHeld.portOpen := ⟨rfl, rfl⟩
theorem witness_liveIn_open (y : Sync) : (liveIn y).portOpen := ⟨rfl, rfl⟩
theorem witness_liveWith_open (e : Entry) : (liveWith e).portOpen := ⟨rfl, rfl⟩
theorem witness_liveAsking_open (y : OutState) : (liveAsking y).portOpen := ⟨rfl, rfl⟩

theorem witness_ResetLeavesResetValues : Instr.start.wire = some [0x11] := rfl

/-- `live` with another transaction state. -/
def liveAt (x : Transaction) : State := { live with port := { live.port with transaction := x } }

theorem witness_TransactionsBeginAndEnd :
    (State.reset.inReset = false ∧ State.reset.pins.selLow = false) ∧ (live.inReset = false ∧ live.pins.selLow = true ∧ live.port.resetDue = false) ∧
      (∃ s : State, s.inReset = false ∧ s.pins.selLow = true ∧ s.port.resetDue = true) ∧
      (liveAt (.operands .arm [])).port.transaction = .operands .arm [] ∧
      (liveAt (.answer 3 false [1])).port.transaction = .answer 3 false [1] ∧
      (liveAt .trailing).port.transaction = .trailing ∧ (liveAt .awaitHigh).port.transaction = .awaitHigh :=
  ⟨⟨rfl, rfl⟩, ⟨rfl, rfl, rfl⟩, ⟨{ live with port := { live.port with resetDue := true } }, rfl, rfl, rfl⟩, rfl, rfl, rfl, rfl⟩

theorem witness_WireAndRowAgree :
    Instr.hold.wire = some [0x60] ∧ Instr.hold.wellFormed = true ∧ (Instr.unknownCommand 0).wire = some [0] ∧
      (Instr.unknownCommand 0).wellFormed = true := by decide

theorem witness_PortOctetsMoveTransaction :
    (liveAt (.operands .cancel [])).inReset = false ∧
      (liveAt (.operands .cancel [])).port.transaction = .operands .cancel [] ∧ 0 + 1 < Cmd.operandCount .cancel ∧
      (liveAt (.answer 3 false [1])).port.transaction = .answer 3 false [1] ∧
      (liveAt (.answer 3 true [1])).port.transaction = .answer 3 true [1] ∧
      (liveAt (.answer 3 true [])).port.transaction = .answer 3 true [] ∧
      (liveAt .trailing).port.transaction = .trailing ∧ (liveAt .idle).port.transaction = .idle ∧
      ([true, false] : List Bool).length < 8 ∧ live.port.sdo = none ∧
      (∃ s : State, s.port.sdo = some (0x25 : Octet)) :=
  ⟨rfl, rfl, by decide, rfl, rfl, rfl, rfl, rfl, by decide, rfl,
    ⟨{ live with port := { live.port with sdo := some 0x25 } }, rfl⟩⟩

theorem witness_AnswersBecomeReady :
    (liveAt (.answer 100 false [1])).port.transaction = .answer 100 false [1] ∧
      100 ≤ (liveAt (.answer 100 false [1])).timebase.stepNo ∧ (Instr.unknownCommand 0x7E).wellFormed = true := by
  decide +kernel

theorem witness_LoadProfileJudged :
    live.timebase.sync ≠ .off ∧ fresh.timebase.sync = .off ∧ profileError profileOctets = none ∧
      (profileOctets.set 2 4).length = 216 ∧ profileError (profileOctets.set 2 4) = some (3, 2) := by decide +kernel

/-- `profileOctets` with channel 0 CAPTURE into ring 0, and ring 1 of reports. -/
def profileOctetsB : List Octet :=
  profileOctets.take 56 ++ [1, 1, 0, 0, 1, 0, 0, 0] ++ zeros 56 ++
    ([1, 0] ++ le 2 0 ++ le 2 4 ++ le 2 1 ++ zeros 4) ++ ([1, 2] ++ le 2 4 ++ le 2 4 ++ le 2 1 ++ zeros 4) ++ zeros 72

/-- The first check that fails, and the field that it reports: a range before a division, the higher ring of an overlap. -/
theorem test_profile_errors :
    profileError ((profileOctets.set 3 3).set 20 1) = some (1, 20) ∧ profileError (profileOctets.set 3 3) = some (2, 4) ∧
      profileError (profileOctetsB.set 134 2) = some (7, 134) ∧
      profileError ((profileOctetsB.set 121 2).set 62 255) = some (8, 133) ∧
      profileError (profileOctetsB.set 62 1) = some (9, 62) := by decide +kernel

theorem witness_AcceptedProfileInRanges :
    profileError profileOctetsB = none ∧ ((profileOf profileOctetsB).rings[0]?).join.isSome = true ∧
      ((profileOf profileOctetsB).rings[1]?).join.isSome = true ∧
      (match ((profileOf profileOctetsB).channels[0]? : Option ChannelCfg) with
        | some (.capture c) => c.ring
        | some _ => none
        | none => none) = some 0 := by decide +kernel

theorem witness_StartHandsProfile :
    (∃ s : State, s.portOpen ∧ s.timebase.sync = .off ∧ s.port.loaded = some profileOctetsB ∧ s.hold.held = true) ∧
      (fresh.timebase.sync = .off ∧ fresh.port.loaded = none) ∧ live.timebase.sync ≠ .off :=
  ⟨⟨{ fresh with port := { fresh.port with loaded := some profileOctetsB } }, ⟨rfl, rfl⟩, rfl, rfl, rfl⟩, ⟨rfl, rfl⟩,
    fun h => Sync.noConfusion h⟩

theorem witness_ReadingsChangeNothing :
    (live.port.started = true ∧ (1 : Octet).toNat = live.profile.station) ∧
      (live.roundCtl.peers[(15 : Octet).toNat]?).isSome = true ∧ (live.channels[(7 : Octet).toNat]?).isSome = true ∧
      entryAt live 47 = none ∧ (entryAt (liveWith (entryA onMarkA .toggle 0 (.waiting 0))) 0).isSome = true ∧
      (ringAt live 0).isSome = true ∧ ringAt live 7 = none ∧ fresh.port.started = false ∧
      fresh.port.loaded = none ∧ (∃ s : State, s.portOpen ∧ s.port.loaded = some profileOctets) :=
  ⟨by decide, by decide +kernel, by decide +kernel, by decide +kernel, by decide +kernel, by decide +kernel,
    by decide +kernel, rfl, rfl,
    ⟨{ fresh with port := { fresh.port with loaded := some profileOctets } }, ⟨rfl, rfl⟩, rfl⟩⟩

/-- Ring 0 of `live` with two records. -/
def ringTwo : Ring :=
  { defn := { base := 0, length := 4, source := .localChannel 0, low := 1 }, readIdx := 3, count := 2, lowRoom := false,
    pendingLoss := 0, totalLost := 0, lossReported := false }

theorem witness_RingsReadAndReleased_read :
    ringAt (setRing 0 ringTwo live) 0 = some ringTwo ∧ (setRing 0 ringTwo live).port.started = true := by
  decide +kernel

theorem witness_RingsReadAndReleased :
    ringAt (setRing 0 ringTwo live) 0 = some ringTwo ∧ ringTwo.count < (3 : Word16).toNat ∧
      (2 : Word16).toNat ≤ ringTwo.count ∧ ringTwo.good :=
  ⟨by decide +kernel, by decide, by decide, by unfold Ring.good; decide⟩

theorem witness_RingTakesRecord :
    ringAt (setRing 0 ringTwo live) 0 = some ringTwo ∧ ringTwo.count < ringTwo.defn.length ∧
      (∀ n, (markRecord markA false n).length = 16) ∧ Memory.wf (setRing 0 ringTwo live).journal.mem ∧
      (ringAt (setRing 0 { ringTwo with count := 4 } live) 0).map (fun r => decide (r.defn.length ≤ r.count)) =
        some true :=
  ⟨by decide +kernel, by decide, fun _ => rfl, ⟨List.Pairwise.nil, fun _ h => nomatch h⟩, by decide +kernel⟩

theorem witness_NoticesAndMask :
    (0x8000 : Word16).getLsbD 15 = true ∧ (0x0200 : Word16).getLsbD 15 = false ∧ (0x0200 : Word16).getLsbD 9 = true ∧
      (∃ s : State, s.portOpen ∧ s.notice.reported.getLsbD 9 = true) :=
  ⟨by decide, by decide, by decide,
    ⟨{ live with notice := { live.notice with reported := 0x200 } }, ⟨rfl, rfl⟩, by decide⟩⟩

/-- The first bit on SDO of DONE, and of SHORT, and an octet sampled most significant bit first. -/
theorem test_port_bits :
    portBits 0x25 = [false, false, true, false, false, true, false, true] ∧ octetOfSamples (portBits 0x25) = 0x25 := by
  decide +kernel

theorem witness_no_entry (j : Nat) : entryAt live j = none := by
  simp only [entryAt, live, State.reset, ActionUnit.reset, Vector.getElem?_replicate]
  split <;> rfl

theorem witness_no_record (j : Nat) : recordOf live j = none := by
  simp only [recordOf, live, State.reset, RequestUnit.reset, Vector.getElem?_replicate]
  split <;> rfl

/-- `live` with every place of the armed list taken. -/
def liveFull : State :=
  { live with action :=
      { live.action with entries := Vector.replicate 48 (some (entryA onMarkA .toggle 0 (.waiting 0))) } }

theorem witness_ArmJudgedInOrder :
    armOnMark.length = 28 ∧ fresh.port.started = false ∧ driveCfg live 0 = none ∧ driveCfg live 8 = none ∧
      (driveCfg live 1).isSome = true ∧ liveHeld.action.held = true ∧
      (armFieldsOf (armAt 2 0 5002000 24 0)).valid live.profile live.timebase.nt = false ∧
      (armFieldsOf (armAt 2 0 5001999 25 0)).valid live.profile live.timebase.nt = true ∧
      (∀ i, i < 48 → (entryAt liveFull i).isSome = true) ∧ entryAt live 0 = none ∧
      (armFieldsOf (armAt 2 0 5001999 25 0)).trigger = .atTime 5001999 0 ∧
      (5001999 : NT) ≠ live.timebase.nt + 2000 ∧ ntBefore (live.timebase.nt + 2000) 5001999 = false := by
  decide +kernel

theorem witness_ArmCreatesEntry :
    (armAt 0 0 5002000 0 0).length = 28 ∧ live.port.started = true ∧ live.action.held = false ∧
      (armFieldsOf (armAt 0 0 5002000 0 0)).valid live.profile live.timebase.nt = true ∧
      (armFieldsOf armOnMark).valid live.profile live.timebase.nt = true ∧
      (armFieldsOf (armAt 0 0 5002000 0 0)).trigger = .atTime (live.timebase.nt + 2000) 0 ∧
      (armFieldsOf armOnMark).trigger = .onMark 2 0 2 5000 none := by decide +kernel

/-- `live` whose channel 1 admits no requester. -/
def liveClosed : State :=
  { live with profile :=
      { profileA with channels := profileA.channels.set 1 (.drive { rest := .low, safe := .low, permit := 0 }) } }

theorem witness_RemoteArmAnswered :
    (driveCfg liveClosed 1).map (fun c => c.permit.getLsbD 2) = some false ∧
      (driveCfg live 1).map (fun c => c.permit.getLsbD 2) = some true ∧
      (driveCfg liveHeld 1).map (fun c => c.permit.getLsbD 2) = some true ∧ liveHeld.action.held = true ∧
      (∃ e, entryAt (liveWith { entryA onMarkA .toggle 0 (.waiting 0) with owner := 2 }) 0 = some e ∧ e.owner = 2 ∧
        e.tag = 7) ∧
      (armFieldsOf (armAt 2 0 5002000 24 0)).valid live.profile live.timebase.nt = false ∧
      (armFieldsOf (armAt 0 0 5001999 0 0)).inTime live.timebase.nt = false ∧
      (armFieldsOf (armAt 0 0 5002000 0 0)).inTime live.timebase.nt = true :=
  ⟨by decide +kernel, by decide +kernel, by decide +kernel, rfl,
    ⟨{ entryA onMarkA .toggle 0 (.waiting 0) with owner := 2 }, by decide +kernel, rfl, rfl⟩, by decide +kernel,
    by decide +kernel, by decide +kernel⟩

/-- The level that READ_CHANNEL and an echo show of channel 1. -/
def shownLevel (s : State) : Option Level := (s.channels[1]?).bind fun c => (shownDrive 1 c.drive s).level

/-- `live` in a step that reaches the instant, with a SET HIGH due on channel 1 since the nanosecond before. -/
def liveFiring (nt : NT) : State :=
  { liveWith (entryA (.atTime (nt - 1) none) (.set .high) 0 (.scheduled (nt - 1))) with
    timebase := { live.timebase with nt := nt } }

/-- Before the fire the line reads as in the step before; after it, with a round end still due that brings the channel
nothing, it reads the level of the step; with a cyclic fire at offset 0 still to come that turns it
back it does not (R145, R161). -/
theorem test_reading_with_round_end_due :
    let fired := takeFire (liveFiring 5500000)
    let cyclic (l : Level) : Bank :=
      emptyBank.set 0 (some { channel := 1, offset := 0, effect := .set l, exp := 0, phase := 0 })
    shownLevel (liveFiring 5500000) = some .low ∧ roundEndDue fired = true ∧ shownLevel fired = some .high ∧
      shownLevel { fired with cycle := { fired.cycle with bankA := cyclic .high } } = some .high ∧
      shownLevel { fired with cycle := { fired.cycle with bankA := cyclic .low } } = some .low := by decide +kernel

/-- A due fire to a channel changes its reading and no other's; taken, it leaves nothing due. -/
theorem test_reading_with_change_due :
    changeDue 1 (liveFiring 5500000) = true ∧ changeDue 2 (liveFiring 5500000) = false ∧
      changeDue 1 (takeFire (liveFiring 5500000)) = false ∧
      (match execAll [.holdLineAccepted, .pulseEnd 0, .roundEnd defaultOrder, .fire] (liveFiring 5500000) with
        | .next t => decide (drainDrives (liveFiring 5500000) = t)
        | .fault _ => false
        | .refused _ => false) = true := by decide +kernel

theorem witness_ReadingsChangeNothing_quiet : live.drivesQuiet := by
  refine ⟨rfl, by decide +kernel, fun i e h => ?_, nofun, nofun⟩
  rw [witness_no_entry i] at h
  cases h

theorem witness_CancelEndsOrMarks :
    (48 : Octet).toNat > 47 ∧
      entryAt (liveWith (entryA onMarkA .toggle 0 (.waiting 0))) 0 = some (entryA onMarkA .toggle 0 (.waiting 0)) ∧
      entryAt (liveWith (entryA onMarkA .toggle 0 (.scheduled 9))) 0 =
        some (entryA onMarkA .toggle 0 (.scheduled 9)) ∧
      entryAt (liveWith (entryA onMarkA (.pulse .high 25) 0 (.active 9 0 true))) 0 =
        some (entryA onMarkA (.pulse .high 25) 0 (.active 9 0 true)) := by decide +kernel

/-- `live` without rings. -/
def liveRingless : State := { live with journal := Journal.reset }

theorem witness_OutcomeDelivered :
    (entryAt (liveWith (entryA onMarkA .toggle 0 (.waiting 0))) 0).map Entry.owner = some live.profile.station ∧
      (∀ k, ringAt liveRingless k = none) ∧
      (ringAt live 1).map (fun r => r.defn.source) = some .reports ∧
      (entryAt (liveWith { entryA onMarkA .toggle 0 (.waiting 0) with owner := 2 }) 0).map Entry.owner = some 2 ∧
      live.roundCtl.queue.length < 32 ∧ 32 ≤ (List.replicate 32 (Item.cancel 2 0)).length := by
  refine ⟨by decide +kernel, ?_, by decide +kernel, by decide +kernel, by decide, by decide⟩
  intro k
  simp only [ringAt, liveRingless, Journal.reset, Vector.getElem?_replicate]
  split <;> rfl

theorem witness_alone (e : Entry) (j : Nat) (h : j ≠ 0) : entryAt (liveWith e) j = none := by
  have := witness_no_entry j
  simp only [entryAt, liveWith, setEntry, tableUpdate_get_ne _ _ _ _ h] at this ⊢
  exact this

theorem witness_FireRequestsLevel :
    (entryAt (liveWith (entryA onMarkA .toggle 0 (.scheduled 5000000))) 0).map Entry.state =
        some (.scheduled 5000000) ∧
      reached live.timebase.nt 5000000 = true ∧
      (entryA (.atTime 5000000 (some 4000)) .toggle 1 (.scheduled 5000000)).trigger = .atTime 5000000 (some 4000) ∧
      ntAfter (5000000 + (4000 : Word32).setWidth 48) 5003999 = true ∧
      ntAfter (5000000 + (4000 : Word32).setWidth 48) 5004000 = false := by decide +kernel

/-- A repeat scheduled already due fires in the same step (R101). -/
theorem test_due_repeats_fire_in_one_step :
    (entryAt (drainDue (liveWith (entryA (.atTime 4990000 (some 4000)) .toggle 2 (.scheduled 4990000)))) 0).isNone =
      true := by decide +kernel

theorem witness_PulseEndsAndExpiriesTaken :
    (entryAt (liveWith (entryA onMarkA (.pulse .high 25) 1 (.active 5000000 99 false))) 0).map Entry.state =
        some (.active 5000000 99 false) ∧
      99 < live.timebase.stepNo ∧ reached live.timebase.nt 5000000 = true ∧
      (entryAt (liveWith { entryA onMarkA .toggle 0 (.waiting 99) with expiry := some 5000000 }) 0).map Entry.expiry =
        some (some 5000000) := by decide +kernel

/-- `live` with two WAITING entries; the one at index 1 was armed first. -/
def liveTwo : State :=
  setEntry 1 (some (entryA onMarkA .toggle 0 (.waiting 0)))
    (liveWith { entryA onMarkA (.set .high) 0 (.waiting 0) with armSeq := 1 })

theorem witness_MatchSchedulesOrEnds_order :
    (∀ i : Fin 48, i.val ∈ [1, 0] ↔ ((entryAt liveTwo i).any Entry.isWaiting) = true) ∧
      ([1, 0] : List Nat).Pairwise (fun i j => armEarlier (armKey liveTwo i) (armKey liveTwo j) = true) ∧
      takeMark markA liveTwo = matchEntry markA 0 (matchEntry markA 1 liveTwo) := by decide +kernel

theorem witness_MatchSchedulesOrEnds :
    (entryAt (liveWith (entryA onMarkA .toggle 0 (.waiting 0))) 0).map (fun e => entryMatches markA e) = some true ∧
      ntBefore (markA.time + (5000 : Word32).setWidth 48) (live.timebase.nt + 2000) = false ∧
      ntBefore (markA.time + (2999 : Word32).setWidth 48) (live.timebase.nt + 2000) = true ∧
      ntAfter (markA.time + (5000 : Word32).setWidth 48) 5003999 = true ∧
      (∀ j e, entryAt live j = some e → e.isWaiting = true → entryMatches markA e = false) :=
  ⟨by decide +kernel, by decide +kernel, by decide +kernel, by decide +kernel, fun j e h => by
    rw [witness_no_entry j] at h; cases h⟩

theorem witness_StagedBankEdited :
    (cyclicEntryOf (cyclicEntryOctets { channel := 7, offset := 5, effect := .pulse .high 25, exp := 6, phase := 63 })) =
        some { channel := 7, offset := 5, effect := .pulse .high 25, exp := 6, phase := 63 } ∧
      cyclicEntryOf (cyclicEntryOctets { channel := 7, offset := 5, effect := .pulse .high 24, exp := 6, phase := 63 }) =
        none ∧
      (cyclicEntryOctets { channel := 7, offset := 5, effect := .toggle, exp := 6, phase := 64 }).length = 12 ∧
      cyclicEntryOf (cyclicEntryOctets { channel := 7, offset := 5, effect := .toggle, exp := 6, phase := 64 }) =
        none := by decide +kernel

theorem witness_StagedBankEdited_clear :
    (31 : Octet).toNat ≤ 31 ∧ 0 < (1 : Octet).toNat ∧ (31 : Octet).toNat + (1 : Octet).toNat ≤ 32 ∧
      32 < (31 : Octet).toNat + (2 : Octet).toNat := by decide

/-- `live` with the staged bank of 7.3's example. -/
def liveStaged (width : Word32) : State := { live with cycle := { live.cycle with bankB := bankA width } }

theorem witness_MarkReadyJudges :
    ((liveStaged 30000).cycle.stagedBank[9]?).join.map (fun c => c.offset.toNat + 30000) = some 1010000 ∧
      stagedFault (liveStaged 30000) = some (9, .pulseCrossesRound) ∧ stagedFault (liveStaged 19999) = none := by
  decide +kernel

theorem witness_ConflictMeansCommonRound :
    let a : CyclicEntry := { channel := 4, offset := 400000, effect := .set .low, exp := 2, phase := 2 }
    let b : CyclicEntry := { channel := 4, offset := 400000, effect := .set .high, exp := 3, phase := 6 }
    a.conflicts b = true ∧ a.conflicts { b with phase := 5 } = false ∧
      stagedFault { live with cycle := { live.cycle with
        bankB := (emptyBank.set 2 (some { a with channel := 1 })).set 7 (some { b with channel := 1 }) } } =
        some (7, .conflict) := by decide +kernel

theorem witness_ProposeSwapJudged :
    live.timebase.sync = .synced ∧ (12 - live.timebase.round : Word16).toNat = 2 ∧
      (1010 - live.timebase.round : Word16).toNat = 1000 ∧ (11 - live.timebase.round : Word16).toNat < 2 ∧
      1000 < (1011 - live.timebase.round : Word16).toNat ∧ (liveIn .holdover).timebase.sync ≠ .synced := by
  decide +kernel

/-- `live` with a pending swap round. -/
def liveSwap (round : Word16) (staged : Staged) : State :=
  { live with cycle := { live.cycle with pendingSwap := some round, staged := staged } }

theorem witness_SwapAgreedAndTaken :
    numBefore live.timebase.round 10 = false ∧ numBefore live.timebase.round 11 = true ∧
      (liveSwap 10 .ready).cycle.pendingSwap = some (liveSwap 10 .ready).timebase.round ∧
      (liveSwap 10 .editing).cycle.staged ≠ .ready ∧
      (liveSwap 11 .ready).cycle.pendingSwap ≠ some (liveSwap 11 .ready).timebase.round ∧
      numBefore 11 12 = true ∧ numBefore 12 12 = false := by decide +kernel

/-- A due fire of the fire list. -/
def dueA : CyclicDue :=
  { index := 2, entry := { channel := 1, offset := 500000, effect := .toggle, exp := 0, phase := 0 }, instant := 5000000 }

/-- A due fire at offset 0. -/
def dueZero : CyclicDue := { dueA with index := 1, entry := { dueA.entry with offset := 0 } }

theorem witness_CyclicFiresAndPulseEnds_offset_zero :
    reached live.timebase.nt dueZero.instant = true ∧ dueZero.entry.offset = 0 ∧
      ([dueA, dueZero] : List CyclicDue).Pairwise (fun x y => x.index ≠ y.index) ∧
      (let s : State := { live with cycle := { live.cycle with fireList := [dueA, dueZero] } }
      takeOffsetZero 5 s = fireCyclic dueZero s ∧ reached s.timebase.nt (5000001 : NT) = false) := by decide +kernel

/-- A pending cyclic pulse end that is due. -/
def endA : CyclicEnd := { channel := 1, after := .low, index := 2, instant := 5000000, since := 99 }

theorem witness_CyclicFiresAndPulseEnds :
    reached live.timebase.nt dueA.instant = true ∧ endA.since < live.timebase.stepNo ∧
      reached live.timebase.nt endA.instant = true ∧
      ({ live with cycle := { live.cycle with fireList := [dueA], pulseEnds := [endA] } } : State).cycle.fireList =
        [] ++ dueA :: [] := by decide +kernel

theorem witness_HoldAndReleaseCommands_hold :
    fresh.port.started = false ∧ liveHeld.port.started = true ∧ liveHeld.hold.held = true ∧ live.hold.held = false := by
  decide

theorem witness_HoldAndReleaseCommands :
    liveHeld.hold.reasonSync = false ∧ liveHeld.hold.reasonLine = false ∧ liveHeld.hold.held = true ∧
      live.hold.consistent ∧ live.hold.held = false ∧
      (∃ s : State, s.portOpen ∧ s.port.started = true ∧ s.hold.reasonSync = true) :=
  ⟨rfl, rfl, rfl, by unfold HoldUnit.consistent; decide, rfl,
    ⟨{ liveHeld with hold := { liveHeld.hold with reasonSync := true } }, ⟨rfl, rfl⟩, rfl, rfl⟩⟩

/-- `live` with the HOLD line in use. -/
def liveLine (run : Nat) (active due : Bool) (level : Level) : State :=
  { live with
    profile := { profileA with holdLine := .activeHigh }
    pins := { live.pins with hold := level }
    hold := { live.hold with lineRun := run, lineActive := active, lineDue := due } }

theorem witness_HoldLineAccepted :
    live.profile.holdLine = .notUsed ∧ (liveLine 3 false false .high).profile.holdLine = .activeHigh ∧
      (liveLine 3 false false .high).hold.lineRun = 3 ∧ (liveLine 2 false false .high).hold.lineRun < 3 ∧
      (liveLine 0 false true .high).hold.lineDue = true ∧ (liveLine 0 true true .low).hold.lineActive = true := by
  decide +kernel

theorem witness_HoldForcesAndReleases :
    live.hold.releasePending = false ∧ (driveCfg live 1).isSome = true ∧ (live.channels[1]?).isSome = true ∧
      (∃ s : State, s.hold.releasePending = true) :=
  ⟨rfl, by decide +kernel, by decide +kernel,
    ⟨{ liveHeld with hold := { liveHeld.hold with releasePending := true } }, rfl⟩⟩

/-- `live` with a send queue of n items. -/
def liveQueued (n : Nat) : State := setQueue (List.replicate n (.cancel 2 0)) live

/-- `live` with a full outbound table. -/
def liveAskedFull : State :=
  { live with request :=
      { live.request with
        table := Vector.replicate 16
          (some { tag := 7, target := 2, channel := 1, state := .queued, cancelRequested := false, roundSent := none }) } }

theorem witness_ArmRemoteQueued :
    (liveIn .joining).timebase.sync ≠ .synced ∧ (liveIn .joining).timebase.sync ≠ .holdover ∧
      remoteArmValid 3 7 (armFieldsOf armOnMark) live = true ∧
      remoteArmValid 4 7 (armFieldsOf armOnMark) live = false ∧
      (∀ i, i < 16 → (recordOf liveAskedFull i).isSome = true) ∧ (liveQueued 28).roundCtl.queue.length = 28 ∧
      recordOf (liveQueued 28) 0 = none ∧ (liveQueued 27).roundCtl.queue.length < 28 ∧
      recordOf (liveQueued 27) 0 = none := by decide +kernel

theorem witness_CancelRemoteActs :
    (recordOf (liveAsking .awaiting) 0).map OutRecord.tag = some 7 ∧
      (recordOf (liveAsking .queued) 0).map OutRecord.state = some .queued ∧
      (setQueue [.arm 2 1 7 (armFieldsOf armOnMark)] (liveAsking .queued)).roundCtl.queue =
        [] ++ .arm 2 1 7 (armFieldsOf armOnMark) :: [] ∧
      (∀ j, recordOf live j = none) :=
  ⟨by decide +kernel, by decide +kernel, rfl, witness_no_record⟩

/-- A report of station 2 for tag 7. -/
def reportA (kind code : Octet) : ReportItem :=
  { requester := 1, tag := 7, kind := kind, code := code, lastFire := none, fireCount := 0, detail := none }

theorem witness_ReportAnswersRecord :
    (reportA 0 0).known = true ∧ (reportA 1 0x12).known = true ∧ (reportA 2 0x21).known = true ∧
      (reportA 3 0x30).known = false ∧ (reportA 1 0x30).known = false ∧
      (recordOf (liveAsking .accepted) 0).map OutRecord.target = some 2 := by decide +kernel

/-- `live` with an edge to be accepted on channel 0. -/
def liveEdge (level : Level) : State :=
  { live with
    channels :=
      live.channels.set 0
        { Channel.reset with
          filter :=
            { accepted := some (oppositeLevel level), candidate := level, run := 1, runStart := 4999975, runStep := 99
              edgeDue := true } } }

theorem witness_EdgeMakesMark :
    (match channelCfg (liveEdge .high) 0 with
      | .capture c => some c.prescaler
      | .drive _ => none
      | .unused => none) = some 1 ∧
      ((liveEdge .high).channels[0]?).map (fun c => c.filter.edgeDue) = some true := by decide +kernel

/-- `live` with n items in its queue and rings 2 and 3 of peer marks. -/
def liveMarks : State :=
  let d : RingDef := { base := 8, length := 4, source := .peerMarks 0x4 0x1, low := 0 }
  let r : Ring :=
    { defn := d, readIdx := 0, count := 0, lowRoom := false, pendingLoss := 0, totalLost := 0, lossReported := false }
  setRing 2 r (setRing 3 { r with defn := { d with base := 12 } } live)

theorem witness_MarksDelivered :
    live.roundCtl.queue.length < 28 ∧ 28 ≤ (setQueue (List.replicate 28 (.cancel 2 0)) live).roundCtl.queue.length ∧
      ([2, 3] : List Nat).Pairwise (· < ·) ∧
      (∀ k : Fin 8, k.val ∈ [2, 3] ↔ ((ringAt liveMarks k).any (selectsPeerMark · markA)) = true) := by
  decide +kernel

/-- `live` with a run on channel 0 that the sample of its step began. -/
def liveRun (step : Nat) : State :=
  { live with
    channels :=
      live.channels.set 0
        { Channel.reset with
          filter :=
            { accepted := some .low, candidate := .high, run := 1, runStart := 5000000, runStep := step
              edgeDue := false } } }

/-- The run that the sample of this step began starts at the adopted NT where the sample comes after the adoption (R65). -/
theorem test_sample_after_adoption :
    ((joinFrame 1 10 4500000 0 4000000 (liveRun 100)).channels[0]?).map (fun c => c.filter.runStart) =
        some (joinFrame 1 10 4500000 0 4000000 (liveRun 100)).timebase.nt ∧
      ((joinFrame 0 10 4500000 0 4000000 (liveRun 100)).channels[0]?).map (fun c => c.filter.runStart) =
        some 5000000 ∧
      ((joinFrame 1 10 4500000 0 4000000 (liveRun 99)).channels[0]?).map (fun c => c.filter.runStart) =
        some 5000000 := by decide +kernel

theorem witness_FilterTakesSettledRuns :
    ({ accepted := some .low, candidate := .low, run := 0, runStart := 0, runStep := 0, edgeDue := false } : Filter).run = 0 ∧
      ([] : List NT).length + 1 = 1 ∧ (match channelCfg live 0 with
        | .capture c => some (2 ^ c.sampleExp)
        | .drive _ => none
        | .unused => none) = some 1 := by decide +kernel

theorem witness_DriveSettlesStep :
    let a : LevelReq := { kind := .armedEnd, due := 5000000, key := 3, index := 0, level := some .low }
    let b : LevelReq := { kind := .armedStart, due := 5000000, key := 4, index := 1, level := some .high }
    a.precedes b = true ∧ (a.due - 5000000).toNat < 2 ^ 46 ∧ (BitVec.ofNat 32 b.key - (3 : Word32)).toNat < 2 ^ 30 := by
  decide +kernel

/-- `live` with a slew in progress. -/
def liveSlew (c : Int) : State := { live with timebase := { live.timebase with slew := c, spacing := 5, slewLeft := 1 } }

theorem witness_PeriodAdvancesTime :
    drainDue live = live ∧ drainDue (liveSlew 3) = liveSlew 3 ∧ drainDue (liveSlew (-3)) = liveSlew (-3) ∧
      live.inReset = false := by decide +kernel

/-- A SYNCED station with a round end, a fire and the own send instant of the new round due in one step. -/
theorem witness_DueEventsTaken :
    0 < live.profile.period ∧ live.profile.period ≤ 50000000 ∧ live.profile.station < 256 ∧
      0 < live.profile.bitPeriods ∧ live.inReset = false ∧
      (let s := liveFiring 5800000
      (drainDue s).timebase.round = 11 ∧ (entryAt (drainDue s) 0).isNone = true ∧
        (drainDue s).roundCtl.inFlight.isSome = true) := by decide +kernel

/-- Before START an answer comes ready, and a READ_TIME of the step is captured, as the next reference period begins. -/
theorem witness_DueEventsTaken_off :
    let answered : State :=
      { fresh with
        timebase := { fresh.timebase with stepNo := 8 }
        port := { fresh.port with transaction := .answer 8 false [0x01] } }
    fresh.timebase.sync = .off ∧ fresh.inReset = false ∧
      (drainDue answered).port.transaction ≠ .answer 8 false [0x01] ∧
      (match exec .readTime fresh with
        | .next t => t.port.timeDue && !(drainDue t).port.timeDue
        | .fault _ => false
        | .refused _ => false) = true := by decide +kernel

theorem witness_CorrectionAndSlew :
    (([0, 25] : List Int).Pairwise fun x y => x ≤ y) ∧ ([0, 25] : List Int)[0]? = some 0 ∧
      ([0, 25] : List Int)[1]? = some 25 ∧ 0 < 5 ∧ 3 ≤ (3 : Int).natAbs := by decide

/-- A station in LISTEN whose timer has been reached. -/
def listening : State :=
  { liveReceiving .listen with timebase := { live.timebase with sync := .listen, listenTimer := some 5000000 } }

theorem witness_ListenIsLeft :
    listening.timebase.listenTimer = some 5000000 ∧ reached listening.timebase.nt 5000000 = true ∧
      listening.roundCtl.receiver = .receiving receptionA ∧
      frameOf listening.profile.bodyBudget (frameOctets (frameA [])) = some (frameA []) ∧
      (frameA []).clusterTag = listening.profile.clusterTag ∧ (frameA []).sender < listening.profile.stations ∧
      (frameA []).sender ≠ listening.profile.station ∧
      frameOf 64 (frameOctets { frameA [] with synced := false }) = some { frameA [] with synced := false } := by
  decide +kernel

/-- `live` at the end of its round, with three reference frames. -/
def liveRoundEnd : State :=
  { live with timebase :=
      { live.timebase with
        nt := 5500000
        deviations := ((Vector.replicate 16 none).set 0 (some { value := 10, named := true })).set 2
          (some { value := -4, named := false }) } }

theorem witness_RoundEndStartsRound :
    reached liveRoundEnd.timebase.nt (liveRoundEnd.timebase.rs + BitVec.ofNat 48 liveRoundEnd.profile.period) = true ∧
      liveRoundEnd.profile.minRefs ≤ (liveRoundEnd.timebase.deviations.toList.filterMap id).length ∧
      (roundCorrection liveRoundEnd.timebase).natAbs ≤ liveRoundEnd.profile.corrLimit ∧
      (liveRoundEnd.timebase.deviations.toList.filterMap id).any Deviation.named = true ∧
      1 ≤ liveRoundEnd.profile.minRefs := by decide +kernel

/-- The state that a command row answers next; the state itself where it does not. -/
def after (c : Instr) (s : State) : State :=
  match exec c s with
  | .next t => t
  | .fault _ => s
  | .refused _ => s

/-- The data octets of the answer that stands in the port. -/
def answerData (s : State) : List Octet :=
  match s.port.transaction with
  | .answer _ _ (_ :: data) => data
  | .answer _ _ [] => []
  | .idle => []
  | .command => []
  | .operands _ _ => []
  | .trailing => []
  | .awaitHigh => []

/-- READ_TIME in the step that reaches the end of a round shows the new round as the step ends, and READ_TIME named before a
frame of the same step that is adopted shows the adopted round, round start and NT (R15). -/
theorem test_read_time_of_a_step :
    let ended := after (.referencePeriod 0 .low) (after .readTime liveRoundEnd)
    let read := after .readTime (liveReceiving .listen)
    let joined := after (.frameComplete ⟨frameOctets { frameA [] with round := 417, roundStart := 9000000 }, 0⟩) read
    word16At (answerData (after .readTime liveRoundEnd)) 6 = 10 ∧ word16At (answerData ended) 6 = 11 ∧
      word16At (answerData read) 6 = 10 ∧ joined.port.timeDue = true ∧
      answerData (after (.referencePeriod 0 .low) joined) = timeData joined.timebase ∧
      joined.timebase.round = 417 ∧ joined.timebase.rs = 9000000 ∧ joined.timebase.nt = 9500000 := by decide +kernel

theorem witness_StatusAndTimeReported :
    live.portOpen ∧
      (∃ s : State, s.port.timeDue = true ∧ s.port.transaction = .answer 108 false [1] ∧ s.timebase.stepNo < 108) ∧
      exec (.roundEnd defaultOrder) liveRoundEnd = .next (takeRoundEnd defaultOrder liveRoundEnd) :=
  ⟨⟨rfl, rfl⟩,
    ⟨{ live with port := { live.port with transaction := .answer 108 false [1], timeDue := true } }, rfl, rfl, by decide⟩,
    rfl⟩

/-- `liveRoundEnd` with a swap pending for the new round. -/
def liveSwapping (staged : Staged) : State :=
  { liveRoundEnd with cycle := { live.cycle with pendingSwap := some 11, staged := staged } }

theorem witness_RoundEndStartsRound_swaps :
    (liveSwapping .ready).cycle.pendingSwap = some (live.timebase.round + 1) ∧
      (liveSwapping .editing).cycle.staged ≠ .ready ∧ live.cycle.pendingSwap ≠ some (live.timebase.round + 1) := by
  decide +kernel

/-- Peer 2 of `live` HEARD and silent for two rounds, with a record that awaits its reply. -/
def liveLosing : State :=
  { liveAsking .awaiting with
    roundCtl :=
      { live.roundCtl with peers := live.roundCtl.peers.set 2 { Peer.reset with state := .heard, silent := 2 } }
    timebase := { live.timebase with round := 11 } }

theorem witness_RoundStartOfPeersAndRequests :
    liveLosing.roundCtl.heardNow.getLsbD 2 = false ∧
      (liveLosing.roundCtl.peers[2]?).map (fun q => (q.state, q.silent)) = some (.heard, 2) ∧
      (recordOf liveLosing 0).map (fun r => (r.state, r.target, r.roundSent)) = some (.awaiting, 2, some 9) ∧
      liveLosing.profile.replyDeadline ≤ (liveLosing.timebase.round + 1 - 9).toNat ∧
      (recordOf (startRound defaultOrder .synced 0 0 liveLosing) 0).isNone = true := by decide +kernel

/-- The states in which each transition is taken, at the limits of the counts. -/
theorem witness_RoundEndTransitions_counts :
    (∃ s : State, s.timebase.sync = .coldstart ∧ 7 ≤ s.timebase.coldRounds) ∧
      (∃ s : State, s.timebase.sync = .joining ∧ 2 ≤ s.timebase.joinCount) ∧
      (∃ s : State, s.timebase.sync = .synced ∧ 4 ≤ s.timebase.unheard + 1) ∧
      (∃ s : State, s.timebase.sync = .synced ∧ 2 ≤ s.timebase.thin + 1 ∧ s.profile.holdover ≠ 0 ∧
        s.profile.holdOnHoldover = true ∧ s.hold.held = false) ∧
      ∃ s : State, s.timebase.sync = .holdover ∧ s.profile.holdover ≤ s.timebase.holdRounds + 1 :=
  let at' (y : Sync) (t : Timebase) : State := { live with timebase := { t with sync := y } }
  ⟨⟨at' .coldstart { live.timebase with coldRounds := 7 }, rfl, by decide⟩,
    ⟨at' .joining { live.timebase with joinCount := 2 }, rfl, by decide⟩,
    ⟨at' .synced { live.timebase with unheard := 3 }, rfl, by decide⟩,
    ⟨{ at' .synced { live.timebase with thin := 1 } with profile := { profileA with holdOnHoldover := true } }, rfl,
      by decide, by decide, rfl, rfl⟩,
    ⟨at' .holdover { live.timebase with holdRounds := 7 }, rfl, by decide⟩⟩

theorem witness_RoundEndTransitions :
    (liveIn .coldstart).timebase.sync = .coldstart ∧ (liveIn .joining).timebase.joinCount = 0 ∧
      live.timebase.sync = .synced ∧ (liveIn .holdover).profile.holdover = 8 ∧
      (2001 : Int).natAbs > live.profile.corrLimit ∧ (2000 : Int).natAbs ≤ live.profile.corrLimit := by decide +kernel

/-- A SYNCED, RELEASED station with outbound records at 0 and 1, entries of a peer and of its own that are not WAITING, and
items of every kind in its queue. -/
def liveFalling : State :=
  let r : OutRecord := { tag := 8, target := 2, channel := 1, state := .queued, cancelRequested := false, roundSent := none }
  setQueue [.report (reportA 0 0), .cancel 2 0, .mark markA, .report (reportA 2 0x30)]
    (setEntry 1 (some (entryA onMarkA .toggle 0 (.scheduled 6000000)))
      (setEntry 0 (some { entryA onMarkA (.pulse .high 25) 0 (.active 6000000 0 false) with owner := 2, armSeq := 1 })
        (setRecord 1 (some r) (liveAsking .awaiting))))

theorem witness_FallToListenClears :
    liveFalling.timebase.sync = .synced ∧ liveFalling.hold.held = false ∧ liveHeld.hold.held = true ∧
      ([0, 1] : List Nat).Pairwise (· < ·) ∧
      (∀ i : Fin 16, i.val ∈ [0, 1] ↔ (recordOf liveFalling i).isSome = true) ∧
      ([1, 0] : List Nat).Pairwise
        (fun i j => armEarlier (armKey liveFalling i) (armKey liveFalling j) = true) ∧
      (∀ i : Fin 48, i.val ∈ [1, 0] ↔ ((entryAt liveFalling i).any fun e => !e.isWaiting) = true) ∧
      (fallToListen defaultOrder none liveFalling).cycle.held = true ∧
      (fallToListen defaultOrder none liveFalling).roundCtl.queue.length = 3 ∧
      (fallToListen defaultOrder none liveFalling).roundCtl.purged = 2 := by decide +kernel

/-- A HELD station in COLDSTART, and a SYNCED, RELEASED one, whose blocks agree on the hold state. -/
theorem witness_FallToListenClears_agrees :
    let held : State :=
      { State.reset with profile := profileA, timebase := { Timebase.reset with sync := .coldstart } }
    let released : State :=
      { live with channels := tableMap (fun ch => { ch with drive := { ch.drive with forced := true } }) live.channels
                  profile := { profileA with channels := Vector.replicate 8 .unused } }
    held.heldAgrees ∧ held.hold.held = true ∧ released.heldAgrees ∧ released.hold.held = false := by
  intro held released
  have agrees : ∀ s ∈ [held, released], ∀ i : Fin 8,
      ((driveCfg s i).isSome = true → (s.channels[i]).drive.forced = s.hold.held) ∧
        (driveCfg s i = none → (s.channels[i]).drive.forced = true) := by decide +kernel
  have every : ∀ s ∈ [held, released], ∀ (c : Nat) (ch : Channel), s.channels[c]? = some ch →
      ((driveCfg s c).isSome = true → ch.drive.forced = s.hold.held) ∧
        (driveCfg s c = none → ch.drive.forced = true) := fun s m c ch e => by
    obtain ⟨hc, rfl⟩ := Vector.getElem?_eq_some_iff.mp e
    exact agrees s m ⟨c, hc⟩
  exact ⟨⟨rfl, rfl, every held (by simp)⟩, rfl, ⟨rfl, rfl, every released (by simp)⟩, rfl⟩

/-- With no record and no entry the lists of the statement are empty. -/
theorem witness_FallToListenClears_empty :
    (∀ i, ¬ ∃ r, recordOf live i = some r) ∧ ∀ i, ¬ ∃ e, entryAt live i = some e :=
  ⟨fun i ⟨_, h⟩ => (nomatch (witness_no_record i).symm.trans h),
    fun i ⟨_, h⟩ => (nomatch (witness_no_entry i).symm.trans h)⟩

/-- `live` at its own send instant, with items in its queue. -/
def liveSending (y : Sync) : State :=
  { liveIn y with
    timebase := { (liveIn y).timebase with nt := 4752000 }
    roundCtl := { live.roundCtl with sendTaken := false, queue := List.replicate 9 (.cancel 2 0) } }

/-- `live` with the own frame in flight. -/
def liveInFlight (y : Sync) (begun : Nat) : State :=
  { liveIn y with
    timebase := { (liveIn y).timebase with stepNo := 2000 }
    roundCtl := { live.roundCtl with
      inFlight := some { octets := zeros 28, round := 10, begun := begun, packed := 0 } } }

/-- The COLLISION row is taken in the state: the collision counter rises. -/
def collides (s : State) : Bool :=
  match exec .collision s with
  | .next t => t.roundCtl.collisions == s.roundCtl.collisions + 1
  | .fault _ => false
  | .refused _ => false

/-- At the end of the recessive stop bit of the first octet; within it; and at the end of a dominant bit. -/
theorem test_collision_at_end_of_recessive_bit :
    collides (liveInFlight .synced 1960) = true ∧ collides (liveInFlight .synced 1961) = false ∧
      collides (liveInFlight .synced 1964) = false ∧ collides (liveInFlight .synced 2000) = false := by decide +kernel

theorem witness_OwnFrameSentOrAbandoned :
    (liveSending .synced).roundCtl.sendTaken = false ∧ (liveSending .synced).roundCtl.inFlight = none ∧
      (liveSending .coldstart).timebase.sync = .coldstart ∧
      reached (liveSending .synced).timebase.nt (ownSendInstant (liveSending .synced)) = true ∧
      880 + 28 * 10 * (liveInFlight .synced 880).profile.bitPeriods ≤ (liveInFlight .synced 880).timebase.stepNo ∧
      (liveInFlight .coldstart 1960).timebase.sync = .coldstart ∧ 0 < live.profile.bitPeriods ∧
      (liveInFlight .coldstart 1960).timebase.stepNo = 1960 + (9 + 1) * live.profile.bitPeriods ∧
      live.outTagsDistinct :=
  ⟨rfl, rfl, rfl, by decide +kernel, by decide +kernel, rfl, by decide, rfl, fun i j r q h => by
    rw [witness_no_record i] at h; cases h⟩

/-- JOINING reaches the own send instant, and sends nothing (R32). -/
theorem witness_OwnFrameSentOrAbandoned_joining :
    (liveSending .joining).timebase.sync = .joining ∧ (liveSending .joining).roundCtl.sendTaken = false ∧
      reached (liveSending .joining).timebase.nt (ownSendInstant (liveSending .joining)) = true ∧
      reached live.timebase.nt (ownSendInstant live + 500000) = false ∧
      (∃ s : State, s.roundCtl.receiver = .cutShort receptionA ∧ s.roundCtl.inFlight = some
        { octets := zeros 28, round := 10, begun := 1960, packed := 0 }) :=
  ⟨rfl, rfl, by decide +kernel, by decide +kernel,
    ⟨{ liveInFlight .synced 1960 with
      roundCtl := { (liveInFlight .synced 1960).roundCtl with receiver := .cutShort receptionA } }, rfl, rfl⟩⟩

theorem nearest_witness (j : Nat) (hj : j < 4) (_ : j < 16) (_ : j ≠ 1) :
    (j < 0 → arrivalDistance profileA receptionA.rs receptionA.observed 0 <
      arrivalDistance profileA receptionA.rs receptionA.observed j) ∧
    (0 ≤ j → arrivalDistance profileA receptionA.rs receptionA.observed 0 ≤
      arrivalDistance profileA receptionA.rs receptionA.observed j) := by
  have : ∀ j : Fin 4, arrivalDistance profileA receptionA.rs receptionA.observed 0 ≤
      arrivalDistance profileA receptionA.rs receptionA.observed j := by decide +kernel
  exact ⟨fun h => absurd h (Nat.not_lt_zero j), fun _ => this ⟨j, hj⟩⟩

theorem witness_ReceptionBeginsAndFails :
    live.roundCtl.inFlight = none ∧ live.roundCtl.receiver = .ready ∧
      (∃ s : State, s.roundCtl.inFlight = none ∧ s.roundCtl.receiver = .waitIdle) ∧
      (liveInFlight .synced 0).roundCtl.inFlight.isSome = true ∧
      (liveReceiving .synced).roundCtl.receiver = .receiving receptionA ∧
      nearestPeer profileA receptionA.rs receptionA.observed = some 0 ∧ (liveReceiving .synced).nearestTo receptionA 0 ∧
      (liveReceiving .coldstart).receives receptionA ∧ (∃ s : State, s.receives receptionA ∧ s.timebase.sync = .listen) ∧
      ∀ r, ¬ live.receives r :=
  ⟨rfl, rfl, ⟨{ live with roundCtl := { live.roundCtl with receiver := .waitIdle } }, rfl, rfl⟩, rfl, rfl,
    by decide +kernel, ⟨⟨by decide, by decide, by decide⟩, nearest_witness⟩, .inl rfl,
    ⟨{ liveIn .listen with roundCtl := { live.roundCtl with receiver := .cutShort receptionA } }, .inr rfl, rfl⟩,
    fun r h => by cases h <;> rename_i h <;> cases h⟩

/-- A reception of station 0's frame at a shifted instant, in another round or in none. -/
def receptionB (shift : NT) (round : Word16) (inRound : Bool) : Reception :=
  { receptionA with observed := receptionA.observed + shift, round := round, inRound := inRound }

theorem witness_DiscardedFramesCounted :
    frameOf 64 ((frameOctets (frameA [])).set 6 0xFF) = none ∧
      frameOf 64 (frameOctets { frameA [] with clusterTag := 1 }) = some { frameA [] with clusterTag := 1 } ∧
      live.profile.clusterTag ≠ 1 ∧
      frameOf 64 (frameOctets { frameA [] with sender := 1 }) = some { frameA [] with sender := 1 } ∧
      (receptionB 0 9 true).round ≠ (frameA []).round ∧
      live.profile.window < (frameDeviation profileA (receptionB 501 10 true) 0).natAbs ∧
      frameOf 64 (frameOctets { frameA [] with synced := false }) = some { frameA [] with synced := false } ∧
      (0 < live.profile.stations ∧ 0 < 16 ∧ 0 ≠ live.profile.station) := by decide +kernel

theorem witness_ColdstartFrameJoins :
    (liveReceiving .coldstart).timebase.sync = .coldstart ∧ (liveReceiving .coldstart).receives receptionA ∧
      frameOf 64 (frameOctets { frameA [] with startup := true, synced := false }) =
        some { frameA [] with startup := true, synced := false } ∧
      (frameA []).sender < live.profile.station ∧
      ¬ (frameA []).round = (receptionB 0 9 true).round ∧
      frameOf 64 (frameOctets { frameA [] with startup := true, synced := false, sender := 2 }) =
        some { frameA [] with startup := true, synced := false, sender := 2 } ∧
      live.profile.station < 2 ∧ (receptionB 0 10 false).inRound = false :=
  ⟨rfl, .inl rfl, by decide +kernel, by decide, by decide, by decide +kernel, by decide, rfl⟩

theorem witness_ValidFrameTaken :
    (liveReceiving .joining).roundCtl.receiver = .receiving receptionA ∧
      frameOf profileA.bodyBudget (frameOctets (frameA [.mark markA])) = some (frameA [.mark markA]) ∧
      (frameA []).round = receptionA.round ∧ receptionA.inRound = true ∧
      (frameDeviation profileA receptionA 0).natAbs ≤ profileA.window ∧
      receptionA.epoch = (liveReceiving .synced).timebase.epoch ∧
      frameOf 64 (frameOctets { frameA [] with startup := true, synced := false, sender := 2 }) =
        some { frameA [] with startup := true, synced := false, sender := 2 } ∧
      live.profile.station < 2 := by decide +kernel

theorem witness_FrameReadBack :
    (frameA [.mark markA]).encodable ∧ (([.mark markA] : List Item).map Item.size).sum ≤ 64 := by
  refine ⟨⟨by decide, by decide, by decide, ?_⟩, by decide⟩
  intro i hi
  simp only [frameA, List.mem_singleton] at hi
  subst hi
  exact ⟨by decide, by decide⟩

/-- Octets that a station reads as a frame, and as an item. -/
theorem witness_FrameReadBack_read :
    (frameOf 64 (frameOctets (frameA [.mark markA]))).isSome = true ∧
      ((itemOf (frameOctets (frameA [.mark markA]) |>.drop 24)).map fun x => x.1) = some (.mark markA) ∧
      (armFieldsOf (0x21 :: zeros 27)).trigger = .onMark 0 0 0 0 (some 0) ∧
      (armFieldsOf (0x20 :: zeros 27)).trigger = .atTime 0 0 := by
  decide +kernel

end Sys2Proof.Tests
end

section
/-! SUPPORT. Rules about tables, folds over places, and the armed list, shared by the proofs below. -/

namespace Sys2Proof.Machine

/-! ### Tables -/

/-- Two tables with the same contents are the same table. -/
theorem table_ext {α : Type} {n : Nat} {v w : Vector α n} (h : ∀ j : Nat, v[j]? = w[j]?) : v = w :=
  Vector.ext fun i hi => by simpa [hi] using h i

/-- Two changes of one place are one change. -/
theorem tableUpdate_tableUpdate_same {α : Type} {n : Nat} (v : Vector α n) (i : Nat) (f g : α → α) :
    tableUpdate (tableUpdate v i f) i g = tableUpdate v i fun x => g (f x) := by
  refine table_ext ?_
  intro j
  simp only [tableUpdate_get]
  split <;> simp [Function.comp_def]

/-- A change that keeps the content of the place keeps the table. -/
theorem tableUpdate_eq_self {α : Type} {n : Nat} {v : Vector α n} {i : Nat} {f : α → α}
    (h : ∀ x, v[i]? = some x → f x = x) : tableUpdate v i f = v := by
  refine table_ext ?_
  intro j
  rw [tableUpdate_get]
  split
  · next hj =>
    subst hj
    cases hv : v[j]? with
    | none => rfl
    | some x => simp [h x hv]
  · rfl

/-- A fold that handles places one after another, each step changing its own place by `upd` and no other, changes the
places of the list. `P` is what the steps keep and may need. -/
theorem foldl_places {σ β : Type} (P : σ → Prop) (view : σ → Nat → β) (f : σ → Nat → σ) (upd : Nat → β → β)
    (hP : ∀ s i, P s → P (f s i)) (hself : ∀ s i, P s → view (f s i) i = upd i (view s i))
    (hother : ∀ s i j, P s → j ≠ i → view (f s i) j = view s j) :
    ∀ (l : List Nat) (s : σ), P s → l.Nodup → ∀ j,
      view (l.foldl f s) j = if j ∈ l then upd j (view s j) else view s j
  | [], s, _, _, j => by simp
  | i :: l, s, hs, hl, j => by
    obtain ⟨hi, hl⟩ := List.nodup_cons.1 hl
    rw [List.foldl_cons, foldl_places P view f upd hP hself hother l (f s i) (hP s i hs) hl j]
    by_cases hj : j = i
    · subst hj; simp [hi, hself s j hs]
    · simp [hj, hother s i j hs hj]

/-! ### The armed list -/

/-- What stands at a place after another place or the same one is replaced. -/
theorem entryAt_setEntry (s : State) (i j : Nat) (e : Option Entry) :
    entryAt (setEntry i e s) j = if j = i ∧ i < 48 then e else entryAt s j := by
  simp only [entryAt, setEntry, tableUpdate_get]
  by_cases hj : j = i
  · subst hj
    by_cases h : j < 48 <;> simp [h]
  · simp [hj]

/-- Only a place below 48 holds an entry. -/
theorem lt_of_entryAt {s : State} {i : Nat} {e : Entry} (h : entryAt s i = some e) : i < 48 := by
  by_contra hi
  simp [entryAt, hi] at h

/-- The last of two replacements of one place stands. -/
@[simp] theorem setEntry_setEntry_same (i : Nat) (e f : Option Entry) (s : State) :
    setEntry i e (setEntry i f s) = setEntry i e s := by
  simp only [setEntry, tableUpdate_tableUpdate_same]

/-- Putting back the entry that stands changes nothing. -/
theorem setEntry_same {s : State} {i : Nat} {e : Entry} (h : entryAt s i = some e) : setEntry i (some e) s = s := by
  have hsame : tableUpdate s.action.entries i (fun _ => some e) = s.action.entries :=
    tableUpdate_eq_self fun x hx => by
      have : x = some e := by simpa [entryAt, hx] using h
      exact this.symm
  simp only [setEntry, hsame]

/-- Entries are read from the action unit alone. -/
theorem entryAt_congr {s t : State} (h : t.action = s.action) (i : Nat) : entryAt t i = entryAt s i := by
  simp [entryAt, h]

/-! ### The rows of the action unit -/

/-- PULSE_END of an ACTIVE PULSE entry, due (R103). -/
theorem takePulseEnd_due {s : State} {i : Nat} {e : Entry} {l : Level} {w : Word32} {ends : NT} {since : Nat} {c : Bool}
    (he : entryAt s i = some e) (heff : e.effect = .pulse l w) (hst : e.state = .active ends since c)
    (hs : since < s.timebase.stepNo) (hr : reached s.timebase.nt ends = true) :
    takePulseEnd i s =
      let u := requestLevel e.channel
        { kind := .armedEnd, due := ends, key := e.armSeq.toNat, index := i, level := some (oppositeLevel l) } s
      if c then endEntry i Code.cancelled none u else completeFire i e (ends - w.setWidth 48) u := by
  simp [takePulseEnd, he, hst, hs, hr, endPulse, heff]

/-- A complete fire without repeats left ends the entry FIRED (R104). -/
theorem completeFire_last {s : State} {i : Nat} {e : Entry} (due : NT) (he : entryAt s i = some e)
    (hr : e.remaining = 0) : completeFire i e due s = endEntry i Code.fired none s := by
  simp [completeFire, hr, setEntry_same he]

/-- A complete fire of an ON_MARK entry with repeats left awaits the next mark (R104). -/
theorem completeFire_onMark {s : State} {i : Nat} {e : Entry} {st ch : Nat} {sel : EdgeSel} {d : Word32}
    {q : Option Word16} (due : NT) (hr : 0 < e.remaining) (ht : e.trigger = .onMark st ch sel d q) :
    completeFire i e due s =
      setEntry i (some { e with remaining := e.remaining - 1, state := .waiting s.timebase.stepNo }) s := by
  simp [completeFire, ht, Nat.ne_of_gt hr]

/-- A complete fire of an AT entry with repeats left: EXPIRED when the next fire time is after the expiry, SCHEDULED at it
otherwise (R104). -/
theorem completeFire_atTime {s : State} {i : Nat} {e : Entry} {t0 : NT} {d : Word32} (due : NT) (hr : 0 < e.remaining)
    (ht : e.trigger = .atTime t0 (some d)) :
    completeFire i e due s =
      let next := due + d.setWidth 48
      let e' := { e with remaining := e.remaining - 1 }
      if e.expiry.any (ntAfter next ·) then endEntry i Code.expired none (setEntry i (some e') s)
      else setEntry i (some { e' with state := .scheduled next }) s := by
  simp [completeFire, ht, Nat.ne_of_gt hr, ntAdd, BitVec.ofNat_toNat]

/-- EXPIRY of a WAITING entry, due (R105). -/
theorem takeExpiry_due {s : State} {i : Nat} {e : Entry} {since : Nat} {x : NT} (he : entryAt s i = some e)
    (hst : e.state = .waiting since) (hx : e.expiry = some x) (hs : since < s.timebase.stepNo)
    (hr : reached s.timebase.nt x = true) : takeExpiry i s = endEntry i Code.expired none s := by
  simp [takeExpiry, he, hst, hx, hs, hr]

end Sys2Proof.Machine
end

section
/-! SETTLED. PULSE_END and EXPIRY (O27). -/

namespace Sys2Proof.Machine

/-- Settles O27: the row of a due pulse end or expiry is the ending, or the completion with its cases of R104. -/
theorem pulseEndsAndExpiriesTaken : Obligations.PulseEndsAndExpiriesTaken := by
  refine ⟨fun s i e l w ends since c he heff hst hs hr => ?_, fun s i e since x he hst hx hs hr => ?_⟩
  · intro u
    have hu : entryAt u i = some e := (entryAt_congr (by simp [u]) i).trans he
    have hstep : u.timebase.stepNo = s.timebase.stepNo := by simp [u]
    have hend : exec (.pulseEnd i) s =
        .next (if c then endEntry i Code.cancelled none u else completeFire i e (ends - w.setWidth 48) u) :=
      congrArg Host.Outcome.next (takePulseEnd_due he heff hst hs hr)
    refine ⟨?cancelled, ?last, ?onMark, ?atTime⟩
    case cancelled => rintro rfl; exact hend
    case last => rintro rfl h0; rw [hend, if_neg (by decide), completeFire_last _ hu h0]; rfl
    case onMark =>
      rintro rfl h0 st ch sel d q ht
      rw [hend, if_neg (by decide), completeFire_onMark _ h0 ht, hstep]
    case atTime =>
      rintro rfl h0 t0 d ht next e2
      rw [hend, if_neg (by decide), completeFire_atTime _ h0 ht]
      refine ⟨fun ⟨x, hx, hlate⟩ => ?_, fun hin => ?_⟩
      · have hany : e.expiry.any (ntAfter next ·) = true := by simp [hx, hlate]
        exact congrArg Host.Outcome.next (if_pos hany)
      · have hany : ¬ e.expiry.any (ntAfter next ·) = true := by
          cases hx : e.expiry with
          | none => simp
          | some x => simp [hin x hx]
        exact congrArg Host.Outcome.next (if_neg hany)
  · exact congrArg Host.Outcome.next (takeExpiry_due he hst hx hs hr)

end Sys2Proof.Machine
end

section
/-! SUPPORT. Sorted lists, the correction of a round, and the pace of a slew (R10, R12). -/

namespace Sys2Proof.Machine

/-! ### Sorting by insertion -/

section Sorting

variable {α : Type} {r : α → α → Bool} {le : α → α → Prop}

/-- Insertion keeps a list in order, where `r` decides a total order. -/
theorem insertOrdered_pairwise (hlt : ∀ a b, r a b = true → le a b) (hge : ∀ a b, r a b = false → le b a)
    (htrans : ∀ a b c, le a b → le b c → le a c) (x : α) :
    ∀ l : List α, l.Pairwise le → (insertOrdered r x l).Pairwise le
  | [], _ => by simp [insertOrdered]
  | y :: ys, h => by
    obtain ⟨hy, hys⟩ := List.pairwise_cons.1 h
    unfold insertOrdered
    split
    · next hxy =>
      refine List.pairwise_cons.2 ⟨fun z hz => ?_, h⟩
      rcases List.mem_cons.1 hz with rfl | hz
      · exact hlt _ _ hxy
      · exact htrans _ _ _ (hlt _ _ hxy) (hy z hz)
    · next hxy =>
      refine List.pairwise_cons.2 ⟨fun z hz => ?_, insertOrdered_pairwise hlt hge htrans x ys hys⟩
      rcases List.mem_cons.1 ((insertOrdered_perm r x ys).mem_iff.1 hz) with rfl | hz
      · exact hge _ _ (Bool.eq_false_iff.2 hxy)
      · exact hy z hz

/-- Sorting puts a list in order, where `r` decides a total order. -/
theorem sortOrdered_pairwise (hlt : ∀ a b, r a b = true → le a b) (hge : ∀ a b, r a b = false → le b a)
    (htrans : ∀ a b c, le a b → le b c → le a c) (l : List α) : (sortOrdered r l).Pairwise le := by
  have keeps : ∀ (l acc : List α), acc.Pairwise le → (l.foldl (fun acc x => insertOrdered r x acc) acc).Pairwise le := by
    intro l
    induction l with
    | nil => exact fun _ h => h
    | cons x l ih => exact fun acc h => ih _ (insertOrdered_pairwise hlt hge htrans x acc h)
  exact keeps l [] List.Pairwise.nil

end Sorting

/-! ### The correction (R10) -/

/-- The values of a correction in ascending order. -/
theorem sorted_values (v : List Int) : (sortOrdered (fun a b => decide (a < b)) v).Pairwise (· ≤ ·) := by
  refine sortOrdered_pairwise (fun a b h => ?_) (fun a b h => ?_) (fun a b c => ?_) v
  · exact Int.le_of_lt (of_decide_eq_true h)
  · exact Int.not_lt.1 (of_decide_eq_false h)
  · exact Int.le_trans

/-- Lists of the same values sort to one list. -/
theorem sorted_eq_of_perm {v w : List Int} (h : v.Perm w) :
    sortOrdered (fun a b => decide (a < b)) v = sortOrdered (fun a b => decide (a < b)) w :=
  List.Perm.eq_of_pairwise (fun _ _ _ _ => Int.le_antisymm) (sorted_values v) (sorted_values w)
    ((sortOrdered_perm _ v).trans (h.trans (sortOrdered_perm _ w).symm))

/-- Values in ascending order stand as they are. -/
theorem sorted_of_pairwise {v : List Int} (h : v.Pairwise fun x y => x ≤ y) :
    sortOrdered (fun a b => decide (a < b)) v = v :=
  List.Perm.eq_of_pairwise (fun _ _ _ _ => Int.le_antisymm) (sorted_values v) h (sortOrdered_perm _ v)

/-- The order of the values plays no part (R10). -/
theorem correctionOf_perm {v w : List Int} (h : v.Perm w) : correctionOf v = correctionOf w := by
  simp only [correctionOf, sorted_eq_of_perm h, h.length_eq]

/-- The first and the last of what a list keeps when k elements are taken from either end. -/
theorem ends_of_trimmed {v : List Int} {a b : Int} {k : Nat} (hk : 2 * k < v.length) (ha : v[k]? = some a)
    (hb : v[v.length - 1 - k]? = some b) :
    ((v.drop k).take (v.length - 2 * k)).headD 0 = a ∧ ((v.drop k).take (v.length - 2 * k)).getLastD 0 = b := by
  constructor
  · rw [List.headD_eq_head?_getD, List.head?_eq_getElem?, List.getElem?_take_of_lt (by omega), List.getElem?_drop]
    simp [ha]
  · have hlast : k + ((v.drop k).take (v.length - 2 * k)).length - 1 = v.length - 1 - k := by simp; omega
    rw [List.getLastD_eq_getLast?, List.getLast?_eq_getElem?, List.getElem?_take_of_lt (by simp; omega),
      List.getElem?_drop, ← Nat.add_sub_assoc (by simp; omega), hlast, hb, Option.getD_some]

/-- Something remains of a list that is not empty (R10). -/
theorem two_discarded_lt {n : Nat} (h : 0 < n) : 2 * discarded n < n := by
  unfold discarded
  split
  · omega
  · split <;> omega

/-- The correction of values in ascending order (R10). -/
theorem correctionOf_sorted {v : List Int} {a b : Int} (h : v.Pairwise fun x y => x ≤ y)
    (ha : v[discarded v.length]? = some a) (hb : v[v.length - 1 - discarded v.length]? = some b) :
    correctionOf v = (a + b).tdiv 2 := by
  have hpos : 0 < v.length := by
    by_contra h0
    simp [List.length_eq_zero_iff.1 (Nat.eq_zero_of_not_pos h0)] at ha
  obtain ⟨hfirst, hlast⟩ := ends_of_trimmed (two_discarded_lt hpos) ha hb
  simp only [correctionOf, sorted_of_pairwise h, hfirst, hlast]

/-! ### The slew (R12) -/

/-- Repeating m + n times is repeating n times and then m times. -/
theorem repeat_add {α : Type} (f : α → α) (m n : Nat) (a : α) :
    Nat.repeat f (m + n) a = Nat.repeat f m (Nat.repeat f n a) := by
  induction m with
  | zero => simp [Nat.repeat]
  | succ m ih => rw [Nat.succ_add]; simp [Nat.repeat, ih]

/-- An adjusted step is due when a slew is under way and its spacing runs out (R12). -/
theorem adjustDue_iff (t : Timebase) : t.adjustDue = true ↔ t.slew ≠ 0 ∧ t.slewLeft ≤ 1 := by
  simp [Timebase.adjustDue]

/-- A reference period that is not adjusted takes 25 ns (R1). -/
theorem advance_plain {t : Timebase} (h : ¬ (t.slew ≠ 0 ∧ t.slewLeft ≤ 1)) :
    t.advance = { t with nt := t.nt + 25, stepNo := t.stepNo + 1, slewLeft := t.slewLeft - 1 } := by
  rw [← adjustDue_iff] at h
  simp [Timebase.advance, h]

/-- An adjusted step takes one nanosecond from the slew, 24 ns long for a positive and 26 ns for a negative one (R12). -/
theorem advance_adjusted {t : Timebase} (h : t.slew ≠ 0 ∧ t.slewLeft ≤ 1) :
    t.advance =
      { t with
        nt := t.nt + BitVec.ofInt 48 (25 - t.slew.sign), stepNo := t.stepNo + 1, slew := t.slew - t.slew.sign
        slewLeft := t.spacing } := by
  have hdue := (adjustDue_iff t).2 h
  rcases Int.lt_or_gt_of_ne h.1 with hneg | hpos
  · simp [Timebase.advance, hdue, Int.not_lt.2 (Int.le_of_lt hneg), Int.sign_eq_neg_one_of_neg hneg]
  · simp [Timebase.advance, hdue, hpos, Int.sign_eq_one_of_pos hpos]

/-- The periods before the spacing runs out take 25 ns each. -/
theorem repeat_advance_plain (t : Timebase) (i : Nat) (h : i < t.slewLeft) :
    Nat.repeat Timebase.advance i t =
      { t with nt := t.nt + BitVec.ofInt 48 (25 * i), stepNo := t.stepNo + i, slewLeft := t.slewLeft - i } := by
  induction i with
  | zero => simp [Nat.repeat]
  | succ i ih =>
    have hnt : t.nt + BitVec.ofInt 48 (25 * i) + 25 = t.nt + BitVec.ofInt 48 (25 * (i + 1 : Nat)) := by
      rw [show (25 : NT) = BitVec.ofInt 48 25 from rfl, BitVec.add_assoc, ← BitVec.ofInt_add]
      congr 2
    rw [Nat.repeat, ih (by omega), advance_plain (by rintro ⟨-, hleft⟩; simp at hleft; omega)]
    simp only [hnt, Nat.add_assoc, Nat.sub_sub]

/-- One spacing of a slew: k periods, of which the last takes one nanosecond from the slew (R12). -/
theorem repeat_advance_spacing (t : Timebase) {k : Nat} (hk : 0 < k) (hspacing : t.spacing = k) (hleft : t.slewLeft = k)
    (hslew : t.slew ≠ 0) :
    Nat.repeat Timebase.advance k t =
      { t with
        nt := t.nt + BitVec.ofInt 48 (25 * k - t.slew.sign), stepNo := t.stepNo + k, slew := t.slew - t.slew.sign } := by
  obtain ⟨i, rfl⟩ : ∃ i, k = i + 1 := ⟨k - 1, by omega⟩
  have hplain := repeat_advance_plain t i (by omega)
  have hout : (Nat.repeat Timebase.advance i t).slew ≠ 0 ∧ (Nat.repeat Timebase.advance i t).slewLeft ≤ 1 := by
    rw [hplain]
    exact ⟨hslew, by simp only; omega⟩
  have hnt : t.nt + BitVec.ofInt 48 (25 * i) + BitVec.ofInt 48 (25 - t.slew.sign) =
      t.nt + BitVec.ofInt 48 (25 * (i + 1 : Nat) - t.slew.sign) := by
    rw [BitVec.add_assoc, ← BitVec.ofInt_add]
    congr 2
    push_cast
    ring
  rw [Nat.repeat, advance_adjusted hout, hplain]
  simp only [hnt, hspacing, hleft, Nat.add_assoc]

/-- One nanosecond less of a slew of more than j ns keeps its direction. -/
theorem sign_of_remaining {c : Int} {j : Nat} (h : j < c.natAbs) : (c - c.sign * j).sign = c.sign := by
  rcases Int.lt_trichotomy c 0 with hc | rfl | hc
  · rw [Int.sign_eq_neg_one_of_neg hc, Int.sign_eq_neg_one_of_neg (by omega)]
  · simp
  · rw [Int.sign_eq_one_of_pos hc, Int.sign_eq_one_of_pos (by omega)]

/-- After j spacings j nanoseconds of the slew have been taken (R12). -/
theorem repeat_advance_slew {t : Timebase} {k : Nat} (hk : 0 < k) (hspacing : t.spacing = k) (hleft : t.slewLeft = k) :
    ∀ j : Nat, j ≤ t.slew.natAbs → Nat.repeat Timebase.advance (j * k) t =
      { t with
        nt := t.nt + BitVec.ofInt 48 (25 * (j * k : Nat) - t.slew.sign * j), stepNo := t.stepNo + j * k
        slew := t.slew - t.slew.sign * j }
  | 0, _ => by simp [Nat.repeat]
  | j + 1, hj => by
    have hrest : (t.slew - t.slew.sign * j).sign = t.slew.sign := sign_of_remaining (by omega)
    have hne : t.slew - t.slew.sign * j ≠ 0 := by
      intro h0
      rw [h0, Int.sign_zero] at hrest
      have hzero := Int.sign_eq_zero_iff_zero.1 hrest.symm
      simp [hzero] at hj
    have hu := repeat_advance_slew hk hspacing hleft j (by omega)
    have hstep := repeat_advance_spacing (Nat.repeat Timebase.advance (j * k) t) hk (by rw [hu]; exact hspacing)
      (by rw [hu]; exact hleft) (by rw [hu]; exact hne)
    have hnt : t.nt + BitVec.ofInt 48 (25 * (j * k : Nat) - t.slew.sign * j) +
        BitVec.ofInt 48 (25 * k - t.slew.sign) =
        t.nt + BitVec.ofInt 48 (25 * ((j + 1) * k : Nat) - t.slew.sign * (j + 1 : Nat)) := by
      rw [BitVec.add_assoc, ← BitVec.ofInt_add]
      congr 2
      push_cast
      ring
    have hslew : t.slew - t.slew.sign * j - t.slew.sign = t.slew - t.slew.sign * (j + 1 : Nat) := by push_cast; ring
    have hlen : k + j * k = (j + 1) * k := by ring
    rw [← hlen, repeat_add, hstep, hu]
    simp only [hrest, hnt, hslew, Nat.add_assoc, Nat.add_comm (j * k) k, hlen]

end Sys2Proof.Machine
end

section
/-! SETTLED. The correction of a round and the pace of its slew (O47). -/

namespace Sys2Proof.Machine

/-- Settles O47: the correction reads the sorted values, and a slew goes by induction on the spacings. -/
theorem correctionAndSlew : Obligations.CorrectionAndSlew := by
  refine ⟨fun v w => correctionOf_perm, fun v a b h ha hb => correctionOf_sorted h ha hb, ?_⟩
  intro t k j hk hspacing hleft hj u
  have hu := repeat_advance_slew hk hspacing hleft j hj
  exact ⟨congrArg Timebase.slew hu, congrArg Timebase.nt hu, congrArg Timebase.stepNo hu⟩

end Sys2Proof.Machine
end

section
/-! SUPPORT. The reference period: what the samples and the new step do (R1, R63, R149). -/

namespace Sys2Proof.Machine

/-- A state is known from its parts. -/
theorem State.ext_parts {s t : State} (hpins : s.pins = t.pins) (hreset : s.inReset = t.inReset)
    (hprofile : s.profile = t.profile) (htime : s.timebase = t.timebase) (hround : s.roundCtl = t.roundCtl)
    (hchannels : s.channels = t.channels) (hjournal : s.journal = t.journal) (haction : s.action = t.action)
    (hcycle : s.cycle = t.cycle) (hhold : s.hold = t.hold) (hrequest : s.request = t.request) (hport : s.port = t.port)
    (hnotice : s.notice = t.notice) (hfree : s.freeCount = t.freeCount) (hpending : s.pending = t.pending) : s = t := by
  cases s; cases t
  simp_all

/-- A channel unit after a reference period whose sample, if it takes one, shows `level` (R63). -/
def Channel.period (cfg : ChannelCfg) (step : Nat) (now : NT) (level : Level) (ch : Channel) : Channel :=
  match cfg with
  | .unused => ch
  | .drive _ => ch
  | .capture cap =>
    if 2 ^ cap.sampleExp ≤ ch.phase + 1 then
      { ch with phase := 0, filter := ch.filter.sample cap.filterLen step now level }
    else { ch with phase := ch.phase + 1 }

/-- A reference period of channel c, as a change of its place. -/
theorem capturePeriod_channels (s : State) (c : Nat) :
    (capturePeriod s c).channels =
      tableUpdate s.channels c
        (Channel.period (channelCfg s c) s.timebase.stepNo s.timebase.nt (lineLevel s c)) := by
  unfold capturePeriod
  cases hcfg : channelCfg s c with
  | unused => exact (tableUpdate_eq_self fun _ _ => rfl).symm
  | drive d => exact (tableUpdate_eq_self fun _ _ => rfl).symm
  | capture cap =>
    refine table_ext fun j => ?_
    cases hch : s.channels[c]? with
    | none => by_cases hj : j = c <;> simp [tableUpdate_get, hj, hch]
    | some ch => by_cases hp : 2 ^ cap.sampleExp ≤ ch.phase + 1 <;> by_cases hj : j = c <;>
        simp [sampleChannel, tableUpdate_get, Channel.period, hch, hp, hj]

/-- A reference period of every channel (R63). -/
theorem foldl_capturePeriod_frame (l : List Nat) (s : State) :
    (l.foldl capturePeriod s).pins = s.pins ∧ (l.foldl capturePeriod s).inReset = s.inReset ∧
    (l.foldl capturePeriod s).profile = s.profile ∧ (l.foldl capturePeriod s).timebase = s.timebase ∧
    (l.foldl capturePeriod s).roundCtl = s.roundCtl ∧ (l.foldl capturePeriod s).journal = s.journal ∧
    (l.foldl capturePeriod s).action = s.action ∧ (l.foldl capturePeriod s).cycle = s.cycle ∧
    (l.foldl capturePeriod s).hold = s.hold ∧ (l.foldl capturePeriod s).request = s.request ∧
    (l.foldl capturePeriod s).port = s.port ∧ (l.foldl capturePeriod s).notice = s.notice ∧
    (l.foldl capturePeriod s).freeCount = s.freeCount ∧ (l.foldl capturePeriod s).pending = s.pending :=
  ⟨foldl_keeps State.pins (fun s x => by simp) _ s, foldl_keeps State.inReset (fun s x => by simp) _ s,
    foldl_keeps State.profile (fun s x => by simp) _ s, foldl_keeps State.timebase (fun s x => by simp) _ s,
    foldl_keeps State.roundCtl (fun s x => by simp) _ s, foldl_keeps State.journal (fun s x => by simp) _ s,
    foldl_keeps State.action (fun s x => by simp) _ s, foldl_keeps State.cycle (fun s x => by simp) _ s,
    foldl_keeps State.hold (fun s x => by simp) _ s, foldl_keeps State.request (fun s x => by simp) _ s,
    foldl_keeps State.port (fun s x => by simp) _ s, foldl_keeps State.notice (fun s x => by simp) _ s,
    foldl_keeps State.freeCount (fun s x => by simp) _ s, foldl_keeps State.pending (fun s x => by simp) _ s⟩

/-- The channels after a reference period (R63). -/
theorem foldl_capturePeriod_channels (s : State) {c : Nat} (hc : c < 8) :
    ((List.range 8).foldl capturePeriod s).channels[c]? =
      s.channels[c]?.map
        (Channel.period (channelCfg s c) s.timebase.stepNo s.timebase.nt (lineLevel s c)) := by
  have hfold := foldl_places (fun u : State => u.profile = s.profile ∧ u.timebase = s.timebase ∧ u.pins = s.pins)
    (fun u c => u.channels[c]?) capturePeriod
    (fun c => Option.map (Channel.period (channelCfg s c) s.timebase.stepNo s.timebase.nt (lineLevel s c)))
    (fun u i h => by simpa using h)
    (fun u i ⟨hp, ht, hl⟩ => by simp [capturePeriod_channels, channelCfg, lineLevel, hp, ht, hl])
    (fun u i j _ hj => by simp [capturePeriod_channels, tableUpdate_get_ne _ _ _ _ hj])
    (List.range 8) s ⟨rfl, rfl, rfl⟩ List.nodup_range c
  simpa [hc] using hfold

/-- A channel after a period that is not a sample's keeps all but its phase; after a sample's all but phase and filter. -/
theorem Channel.period_frame (cfg : ChannelCfg) (step : Nat) (now : NT) (level : Level) (ch : Channel) :
    (ch.period cfg step now level).drive = ch.drive ∧ (ch.period cfg step now level).prescale = ch.prescale ∧
    (ch.period cfg step now level).markSeq = ch.markSeq ∧
    (ch.period cfg step now level).publishLoss = ch.publishLoss ∧
    (ch.period cfg step now level).lastMark = ch.lastMark := by
  cases cfg with
  | unused => exact ⟨rfl, rfl, rfl, rfl, rfl⟩
  | drive d => exact ⟨rfl, rfl, rfl, rfl, rfl⟩
  | capture cap => by_cases hp : 2 ^ cap.sampleExp ≤ ch.phase + 1 <;> simp [Channel.period, hp]

/-- A sample of HOLD reads the pin, the profile's setting and the hold unit (R149). -/
theorem sampleHold_congr {s t : State} (hsetting : t.profile.holdLine = s.profile.holdLine)
    (hpin : t.pins.hold = s.pins.hold) (hhold : t.hold = s.hold) : (sampleHold t).hold = (sampleHold s).hold := by
  unfold sampleHold
  rw [hsetting, hpin]
  split <;> simp [hhold]

/-- From START on the samples of a step are a period of every channel and a sample of HOLD (R63, R149). -/
theorem takeSamples_started {s : State} (h : s.port.started = true) :
    takeSamples s = sampleHold ((List.range 8).foldl capturePeriod s) := by
  simp [takeSamples, h]

/-- Before START nothing is sampled. -/
theorem takeSamples_off {s : State} (h : s.port.started = false) : takeSamples s = s := by
  simp [takeSamples, h]

/-- The samples touch the channel units and the hold unit. -/
theorem takeSamples_frame (s : State) :
    (takeSamples s).pins = s.pins ∧ (takeSamples s).inReset = s.inReset ∧ (takeSamples s).profile = s.profile ∧
    (takeSamples s).timebase = s.timebase ∧ (takeSamples s).roundCtl = s.roundCtl ∧
    (takeSamples s).journal = s.journal ∧ (takeSamples s).action = s.action ∧ (takeSamples s).cycle = s.cycle ∧
    (takeSamples s).request = s.request ∧ (takeSamples s).port = s.port ∧ (takeSamples s).notice = s.notice ∧
    (takeSamples s).freeCount = s.freeCount ∧ (takeSamples s).pending = s.pending := by
  unfold takeSamples
  split
  · simp [foldl_capturePeriod_frame]
  · simp

/-- The state with which the samples of a new step are taken. -/
theorem newStep_frame (lines : Octet) (hold : Level) (s : State) :
    newStep lines hold s =
      { s with
        timebase := s.timebase.advance, channels := (newStep lines hold s).channels
        hold := (newStep lines hold s).hold, pins := { s.pins with lines := lines, hold := hold } } := by
  unfold newStep
  obtain ⟨h1, h2, h3, h4, h5, h6, h7, h8, h9, h10, h11, h12, h13⟩ := takeSamples_frame (setLines lines hold (beginStep s))
  exact State.ext_parts h1 h2 h3 h4 h5 rfl h6 h7 h8 rfl h9 h10 h11 h12 h13

/-- The hold unit after the samples of a new step (R149). -/
theorem newStep_hold (lines : Octet) (hold : Level) (s : State) :
    (newStep lines hold s).hold =
      if s.port.started then (sampleHold { s with pins := { s.pins with lines := lines, hold := hold } }).hold
      else s.hold := by
  unfold newStep
  split
  · next h =>
    rw [takeSamples_started (by exact h)]
    exact sampleHold_congr (by simp [foldl_capturePeriod_frame]; rfl) (by simp [foldl_capturePeriod_frame]; rfl)
      (by simp [foldl_capturePeriod_frame]; rfl)
  · next h => rw [takeSamples_off (by exact Bool.eq_false_iff.2 h)]; rfl

/-- A channel after the samples of a new step: its drive side begins the step, and from START on it takes a period
(R63, R143). -/
theorem newStep_channel (lines : Octet) (hold : Level) (s : State) {c : Nat} (hc : c < 8) :
    (newStep lines hold s).channels[c]? =
      s.channels[c]?.map fun ch =>
        let begun := { ch with drive := ch.drive.newStep }
        if s.port.started then
          begun.period (channelCfg s c) s.timebase.advance.stepNo s.timebase.advance.nt (levelOfBit (lines.getLsbD c))
        else begun := by
  unfold newStep
  cases h : s.port.started with
  | true =>
    rw [takeSamples_started (by exact h)]
    simp only [sampleHold_frame]
    rw [foldl_capturePeriod_channels _ hc]
    simp only [setLines_frame, beginStep, tableMap_get, Option.map_map]
    rfl
  | false =>
    rw [takeSamples_off (by exact h)]
    simp only [setLines_frame, beginStep, tableMap_get]
    rfl

/-- A CAPTURE channel's period, with the sample that ends 2^f of them (R63). -/
theorem Channel.period_sample {cap : CaptureCfg} {ch : Channel} (step : Nat) (now : NT) (level : Level)
    (h : 2 ^ cap.sampleExp ≤ ch.phase + 1) :
    ch.period (.capture cap) step now level =
      { ch with phase := 0, filter := ch.filter.sample cap.filterLen step now level } := by
  simp [Channel.period, h]

/-- A CAPTURE channel's period without a sample (R63). -/
theorem Channel.period_count {cap : CaptureCfg} {ch : Channel} (step : Nat) (now : NT) (level : Level)
    (h : ch.phase + 1 < 2 ^ cap.sampleExp) :
    ch.period (.capture cap) step now level = { ch with phase := ch.phase + 1 } := by
  simp [Channel.period, Nat.not_le.2 h]

/-- A channel that is not CAPTURE takes no sample (R63). -/
theorem Channel.period_other {cfg : ChannelCfg} (step : Nat) (now : NT) (level : Level) (ch : Channel)
    (h : ∀ cap, cfg ≠ .capture cap) : ch.period cfg step now level = ch := by
  cases cfg with
  | unused => rfl
  | drive d => rfl
  | capture cap => exact absurd rfl (h cap)

end Sys2Proof.Machine
end

section
/-! SETTLED. REFERENCE_PERIOD and ADJUSTED_STEP (O46). -/

namespace Sys2Proof.Machine

/-- REFERENCE_PERIOD with nothing left due is the new step. -/
theorem exec_referencePeriod_settled {s : State} (lines : Octet) (hold : Level) (hr : s.inReset = false)
    (hs : s.settledStep) : exec (.referencePeriod lines hold) s = .next (newStep lines hold s) := by
  rw [State.settledStep] at hs
  change Host.Outcome.next (takePeriod lines hold s) = _
  simp [takePeriod, hr, hs]

/-- ADJUSTED_STEP with nothing left due is the new step where the spacing runs out, and no event otherwise. -/
theorem exec_adjustedStep_settled {s : State} (lines : Octet) (hold : Level) (hr : s.inReset = false)
    (hs : s.settledStep) :
    exec (.adjustedStep lines hold) s =
      .next (if s.timebase.slew ≠ 0 ∧ s.timebase.slewLeft ≤ 1 then newStep lines hold s else s) := by
  rw [State.settledStep] at hs
  change Host.Outcome.next (takeAdjusted lines hold s) = _
  simp only [takeAdjusted, hr, hs, adjustDue_iff, Bool.false_eq_true, if_false]

/-- The timebase after a period: NT, step number and slew move, the rest stays (R1, R12). -/
theorem advance_frame (t : Timebase) :
    t.advance =
      { t with
        nt := t.advance.nt, stepNo := t.stepNo + 1, slew := t.advance.slew, slewLeft := t.advance.slewLeft } := by
  unfold Timebase.advance
  split
  · split <;> rfl
  · rfl

/-- Settles O46: the new step, read part by part. -/
theorem periodAdvancesTime : Obligations.PeriodAdvancesTime := by
  intro s lines hold hr hs adjusted
  have htime : (newStep lines hold s).timebase = s.timebase.advance := congrArg State.timebase (newStep_frame lines hold s)
  refine ⟨newStep lines hold s, exec_referencePeriod_settled lines hold hr hs, ?frame, ?time, ?plain, ?shorter, ?longer,
    ?channels, newStep_hold lines hold s, ?adjusts, ?noEvent⟩
  case frame => rw [htime]; exact newStep_frame lines hold s
  case time => rw [htime]; exact advance_frame s.timebase
  case plain => intro h; rw [htime, advance_plain h]; exact ⟨rfl, rfl, rfl⟩
  case shorter =>
    intro h hpos
    rw [htime, advance_adjusted h, Int.sign_eq_one_of_pos hpos]
    exact ⟨rfl, rfl, rfl⟩
  case longer =>
    intro h hneg
    rw [htime, advance_adjusted h, Int.sign_eq_neg_one_of_neg hneg]
    exact ⟨rfl, rfl, rfl⟩
  case channels =>
    intro c ch ch' hch hch'
    have hc : c < 8 := by
      by_contra h
      simp [h] at hch
    rw [newStep_channel lines hold s hc, hch, Option.map_some, Option.some.injEq] at hch'
    rw [htime]
    cases hstart : s.port.started with
    | false =>
      simp only [hstart, Bool.false_eq_true, if_false] at hch'
      subst hch'
      exact ⟨rfl, rfl, rfl, rfl, rfl, fun _ h => (nomatch h), fun _ h => (nomatch h), fun _ => ⟨rfl, rfl⟩⟩
    | true =>
      simp only [hstart, if_true] at hch'
      subst hch'
      obtain ⟨hdrive, hprescale, hseq, hloss, hlast⟩ := Channel.period_frame (channelCfg s c)
        s.timebase.advance.stepNo s.timebase.advance.nt (levelOfBit (lines.getLsbD c)) { ch with drive := ch.drive.newStep }
      refine ⟨hdrive, hprescale, hseq, hloss, hlast, fun cfg _ hcfg hp => ?_, fun cfg _ hcfg hp => ?_, fun h => ?_⟩
      · rw [hcfg, Channel.period_sample _ _ _ (by exact hp)]; exact ⟨rfl, rfl⟩
      · rw [hcfg, Channel.period_count _ _ _ (by exact hp)]; exact ⟨rfl, rfl⟩
      · rw [Channel.period_other _ _ _ _ (h.resolve_left (by simp))]; exact ⟨rfl, rfl⟩
  case adjusts => intro h; rw [exec_adjustedStep_settled lines hold hr hs, if_pos h]
  case noEvent => intro h; rw [exec_adjustedStep_settled lines hold hr hs, if_neg h]

end Sys2Proof.Machine
end

section
/-! SUPPORT. Adoption, the peer upkeep of a valid frame, and what FRAME_COMPLETE comes to (R14, R20, R22, R48, R55). -/

namespace Sys2Proof.Machine

/-! ### Adoption (R14, R65) -/

/-- A channel that takes its sample after an adoption has its run restamped, the others stand (R65). -/
theorem sampledAfterAdoption_channel (a : Octet) (s : State) {c : Nat} (hc : c < 8) :
    (sampledAfterAdoption a s).channels[c]? =
      s.channels[c]?.map fun ch =>
        if a.getLsbD c then { ch with filter := ch.filter.adopted s.timebase.stepNo s.timebase.nt } else ch := by
  have hfold := foldl_places (fun _ : Vector Channel 8 => True) (fun v c => v[c]?)
    (fun v c =>
      if a.getLsbD c then
        tableUpdate v c fun ch => { ch with filter := ch.filter.adopted s.timebase.stepNo s.timebase.nt }
      else v)
    (fun c => Option.map fun ch =>
      if a.getLsbD c then { ch with filter := ch.filter.adopted s.timebase.stepNo s.timebase.nt } else ch)
    (fun _ _ _ => trivial)
    (fun v i _ => by cases h : a.getLsbD i <;> simp)
    (fun v i j _ hj => by cases h : a.getLsbD i <;> simp [tableUpdate_get_ne _ _ _ _ hj])
    (List.range 8) s.channels trivial List.nodup_range c
  simp only [List.mem_range, hc, if_true] at hfold
  exact hfold

/-- A run that this step's sample began (R65). -/
theorem begunIn_iff (step : Nat) (f : Filter) :
    f.begunIn step = true ↔ (f.run ≠ 0 ∨ f.edgeDue = true) ∧ f.runStep = step := by
  simp [Filter.begunIn]

/-- The channels that take their samples after an adoption are the restamped ones (R65). -/
theorem restamped_of_channels {s t : State} {a : Octet}
    (h : ∀ c ch, s.channels[c]? = some ch → t.channels[c]? =
      some (if a.getLsbD c then { ch with filter := ch.filter.adopted s.timebase.stepNo t.timebase.nt } else ch)) :
    s.restamped a t := by
  intro c ch hch begun
  rw [h c ch hch]
  refine ⟨fun ha hb => ?_, fun hn => ?_⟩
  · simp [ha, Filter.adopted, (begunIn_iff _ _).2 hb]
  · cases ha : a.getLsbD c with
    | false => rfl
    | true =>
      have hb : ¬ ch.filter.begunIn s.timebase.stepNo = true := fun hb => hn ⟨ha, (begunIn_iff _ _).1 hb⟩
      simp [Filter.adopted, hb]

/-- The sets of the causes that a change of state, an adoption and a peer raise (10.7.8). -/
theorem mask_syncChange : Cause.mask .syncChange = 1 := by decide
theorem mask_timeJump : Cause.mask .timeJump = 2 := by decide
theorem mask_peerChange : Cause.mask .peerChange = 0x20 := by decide

/-- The entry into JOINING leaves the hold unit alone (R148). -/
theorem enterSync_joining (s : State) :
    enterSync .joining s = raise .syncChange (timeUpdate (fun t => { t with sync := .joining }) s) := rfl

/-- The notices of an adoption for JOINING: TIME_JUMP and SYNC_CHANGE (R14, R35). -/
theorem joinFrame_notice (a : Octet) (round : Word16) (rs : NT) (sender : Nat) (observed : NT) (s : State) :
    (joinFrame a round rs sender observed s).notice =
      { s.notice with pending := s.notice.pending ||| 2 ||| 1, raised := s.notice.raised ||| 2 ||| 1 } := by
  rw [← mask_syncChange, ← mask_timeJump]
  rfl

/-- JOINING by adoption, part by part (R14, R20, R57). -/
theorem joinFrame_eq (a : Octet) (round : Word16) (rs : NT) (sender : Nat) (observed : NT) (s : State) :
    joinFrame a round rs sender observed s =
      { s with
        timebase := { s.timebase with
          sync := .joining, listenTimer := none, joinCount := 0, coldRounds := 0, round := round, rs := rs
          nt := s.timebase.nt + (expectedArrival s.profile rs sender - observed), epoch := s.timebase.epoch + 1
          deviations := Vector.replicate 16 none, slew := 0, spacing := 0, slewLeft := 0 }
        roundCtl := { s.roundCtl with heardNow := 0, heardPrev := 0, sendTaken := false }
        channels := (joinFrame a round rs sender observed s).channels
        notice := (joinFrame a round rs sender observed s).notice } := by
  apply State.ext_parts <;> simp [joinFrame, enterSync_joining, adopt, Timebase.clearSlew, Timebase.clearDeviations]

/-- The channels that an adoption restamps (R65). -/
theorem joinFrame_restamped (a : Octet) (round : Word16) (rs : NT) (sender : Nat) (observed : NT) (s : State) :
    s.restamped a (joinFrame a round rs sender observed s) := by
  refine restamped_of_channels fun c ch hch => ?_
  have hc : c < 8 := by
    by_contra h
    simp [h] at hch
  have hsample := sampledAfterAdoption_channel a (adopt round rs sender observed s) hc
  rw [(adopt_frame round rs sender observed s).2.2.2.1, hch] at hsample
  exact hsample

/-- What is restamped is judged by the channels and the step number alone. -/
theorem restamped_congr {s s' t : State} {a : Octet} (hch : s'.channels = s.channels)
    (hstep : s'.timebase.stepNo = s.timebase.stepNo) (h : s'.restamped a t) : s.restamped a t := by
  intro c ch hc
  rw [← hch] at hc
  have := h c ch hc
  rwa [hstep] at this

/-! ### The peer upkeep (R54, R55) -/

/-- A sender below S that is not the own station is a peer (R53). -/
theorem mem_peerNumbers {p : Profile} {k : Nat} : k ∈ peerNumbers p ↔ k < p.stations ∧ k < 16 ∧ k ≠ p.station := by
  simp [peerNumbers, and_assoc]

/-- A change of a peer's entry (R53). -/
theorem peerUpdate_peer {s : State} {k : Nat} (f : Peer → Peer) (hk : k ∈ peerNumbers s.profile) :
    peerUpdate k f s = roundCtlUpdate (fun r => { r with peers := tableUpdate r.peers k f }) s := by
  simp [peerUpdate, hk]

/-- The peer table and the heard record after a valid frame (R54, R55). -/
theorem peerHeard_roundCtl {f : Frame} (d : Int) {s : State} (hk : f.sender ∈ peerNumbers s.profile) :
    (peerHeard f d s).roundCtl =
      { s.roundCtl with
        heardNow := s.roundCtl.heardNow ||| BitVec.ofNat 16 (2 ^ f.sender)
        peers := tableUpdate s.roundCtl.peers f.sender (Peer.heardFrom f d) } := by
  simp only [peerHeard]
  rw [peerUpdate_peer _ (by exact hk)]
  split <;> rfl

/-- PEER_CHANGE by a valid frame of a peer that was not HEARD (R55). -/
theorem peerHeard_pending {f : Frame} (d : Int) {s : State} {q : Peer} (hq : s.roundCtl.peers[f.sender]? = some q) :
    (peerHeard f d s).notice.pending =
      if q.state = .heard then s.notice.pending else s.notice.pending ||| 0x20 := by
  simp only [peerHeard, hq, Option.any_some]
  by_cases h : q.state = .heard
  · simp [h]
  · simp [h, mask_peerChange]

/-- Peer upkeep touches the round controller and the notices. -/
theorem peerHeard_eq (f : Frame) (d : Int) (s : State) :
    peerHeard f d s = { s with roundCtl := (peerHeard f d s).roundCtl, notice := (peerHeard f d s).notice } := by
  obtain ⟨h1, h2, h3, h4, h5, h6, h7, h8, h9, h10, h11, h12, h13⟩ := peerHeard_frame f d s
  exact State.ext_parts h1 h2 h3 h4 rfl h5 h6 h7 h8 h9 h10 h11 rfl h12 h13

/-! ### FRAME_COMPLETE (R48) -/

/-- FRAME_COMPLETE of a frame that passes the check sequence, the cluster tag and the duplicate-station check (R48). -/
theorem exec_frameComplete_checked {s : State} {r : Reception} {f : Frame} {octets : List Octet} (after : Octet)
    (hr : s.receives r) (hf : frameOf s.profile.bodyBudget octets = some f)
    (htag : f.clusterTag = s.profile.clusterTag) (hsender : f.sender < s.profile.stations)
    (hown : f.sender ≠ s.profile.station) :
    exec (.frameComplete ⟨octets, after⟩) s = .next (takeChecked after r f (endReception s)) := by
  have hcomplete : takeFrameComplete octets after s = takeComplete octets after r s := by
    rcases hr with h | h <;> simp [takeFrameComplete, h]
  have hframe : takeComplete octets after r s = takeFrame after r f (endReception s) := by simp [takeComplete, hf]
  have hchecked : takeFrame after r f (endReception s) = takeChecked after r f (endReception s) := by
    simp [takeFrame, htag, hown, Nat.not_le.2 hsender]
  exact congrArg Host.Outcome.next (hcomplete.trans (hframe.trans hchecked))

/-- A frame that COLDSTART takes for joining (R22). -/
theorem joinsFromColdstart_iff (p : Profile) (r : Reception) (f : Frame) :
    joinsFromColdstart p r f = true ↔
      (f.startup = true ∧ f.sender < p.station) ∨
        (f.startup = false ∧ f.synced = true ∧
          ¬ (r.inRound = true ∧ f.round = r.round ∧ (frameDeviation p r f.sender).natAbs ≤ p.window)) := by
  cases hs : f.startup <;> simp [joinsFromColdstart, hs, passesRound, passesWindow, imp_iff_not_or, or_assoc]

/-- A frame that passes the round check and the acceptance window (R51). -/
theorem takeInRound_valid {s : State} {r : Reception} {f : Frame} (hin : r.inRound = true) (hround : f.round = r.round)
    (hwindow : (frameDeviation s.profile r f.sender).natAbs ≤ s.profile.window) :
    takeInRound r f s = takeValid r f s := by
  simp [takeInRound, passesRound, passesWindow, hin, hround, hwindow]

end Sys2Proof.Machine
end

section
/-! SETTLED. The exits of LISTEN (O48) and the joining from COLDSTART (O6). -/

namespace Sys2Proof.Machine

/-- LISTEN_TIMER_EXPIRY, the timer reached (R19, R16, R57). -/
theorem takeListenExpiry_due {s : State} {x : NT} (hsync : s.timebase.sync = .listen)
    (hx : s.timebase.listenTimer = some x) (hr : reached s.timebase.nt x = true) :
    takeListenExpiry s =
      { s with
        timebase := { s.timebase with
          sync := .coldstart, listenTimer := none, coldRounds := 0, round := 0, rs := s.timebase.nt
          epoch := s.timebase.epoch + 1, deviations := Vector.replicate 16 none, slew := 0, spacing := 0
          slewLeft := 0 }
        roundCtl := { s.roundCtl with heardNow := 0, heardPrev := 0, sendTaken := false }
        notice := { s.notice with pending := s.notice.pending ||| 1, raised := s.notice.raised ||| 1 } } := by
  simp only [takeListenExpiry, hsync, hx, hr, if_true]
  rfl

/-- Settles O48: the expiry of the timer, and the two kinds of checked frame in LISTEN. -/
theorem listenIsLeft : Obligations.ListenIsLeft := by
  refine ⟨fun s x hsync hx hr => ?_, fun s r f octets after hsync hrec hf htag hsender hown => ?_⟩
  · exact ⟨_, congrArg Host.Outcome.next (takeListenExpiry_due hsync hx hr), rfl, rfl, rfl, rfl⟩
  · have hexec := exec_frameComplete_checked after hrec hf htag hsender hown
    have hlisten : takeChecked after r f (endReception s) = takeInListen after r f (endReception s) := by
      simp [takeChecked, hsync]
    rw [hexec, hlisten]
    refine ⟨fun href => ?_, fun hstart hsynced => ?_⟩
    · have hjoin : takeInListen after r f (endReception s) =
          joinFrame after f.round f.roundStart f.sender r.observed (endReception s) := by
        simp [takeInListen, Frame.isReference, href]
      rw [hjoin]
      have heq := joinFrame_eq after f.round f.roundStart f.sender r.observed (endReception s)
      have hnotice := joinFrame_notice after f.round f.roundStart f.sender r.observed (endReception s)
      have hstamp := joinFrame_restamped after f.round f.roundStart f.sender r.observed (endReception s)
      generalize joinFrame after f.round f.roundStart f.sender r.observed (endReception s) = t at heq hnotice hstamp
      exact ⟨t, rfl, congrArg State.timebase heq, congrArg State.roundCtl heq, congrArg NoticeUnit.pending hnotice,
        restamped_congr rfl rfl hstamp, by rw [heq]; rfl⟩
    · have hrestart : takeInListen after r f (endReception s) =
          timeUpdate (fun t => { t with listenTimer := some (listenInstant (endReception s)) }) (endReception s) := by
        simp [takeInListen, Frame.isReference, hstart, hsynced]
      rw [hrestart]
      rfl

/-- A deviation as the peer table records it lies in its range (R55). -/
theorem clampDeviation_range (d : Int) : -32767 ≤ clampDeviation d ∧ clampDeviation d ≤ 32767 := by
  unfold clampDeviation; omega

/-- The state in which a frame taken for joining meets the peer table: a free value is used where it was observed in no
round (assumption 14). -/
def joiningState (r : Reception) (s : State) : State :=
  if r.inRound then s else { s with freeCount := s.freeCount + 1 }

theorem joiningState_eq (r : Reception) (s : State) :
    joiningState r s = { s with freeCount := (joiningState r s).freeCount } := by
  unfold joiningState
  split <;> rfl

/-- Joining from COLDSTART is the upkeep of the sender's entry and the adoption (R22). -/
theorem takeForJoining_eq (after : Octet) (r : Reception) (f : Frame) (s : State) :
    takeForJoining after r f s =
      joinFrame after f.round f.roundStart f.sender r.observed (peerHeard f (joinDeviation r f s) (joiningState r s)) :=
  rfl

/-- Settles O6: the frame is taken for joining by `joinsFromColdstart_iff`, and joining is upkeep and adoption. -/
theorem coldstartFrameJoins : Obligations.ColdstartFrameJoins := by
  intro s r f octets after hsync hrec hf htag hsender h16 hown offset deviation passes
  have hexec := exec_frameComplete_checked after hrec hf htag hsender hown
  rw [hexec]
  refine ⟨fun hjoin => ?_, fun hstart hhigher hin => ?_⟩
  · have hcold : takeChecked after r f (endReception s) = takeForJoining after r f (endReception s) := by
      simp [takeChecked, hsync, (joinsFromColdstart_iff s.profile r f).2 hjoin]
    rw [hcold, takeForJoining_eq]
    have hfree := joiningState_eq r (endReception s)
    generalize hm : joiningState r (endReception s) = m at hfree
    generalize hd : joinDeviation r f (endReception s) = d
    have hk : f.sender ∈ peerNumbers m.profile := by
      rw [hfree]; exact mem_peerNumbers.2 ⟨hsender, h16, hown⟩
    have hpeers := peerHeard_roundCtl d hk
    have hupkeep := peerHeard_eq f d m
    have hroundCtl : m.roundCtl = { s.roundCtl with receiver := .waitIdle } := by rw [hfree]; rfl
    have hnotice : m.notice = s.notice := by rw [hfree]; rfl
    have heq := joinFrame_eq after f.round f.roundStart f.sender r.observed (peerHeard f d m)
    have hraised := joinFrame_notice after f.round f.roundStart f.sender r.observed (peerHeard f d m)
    have hstamp := joinFrame_restamped after f.round f.roundStart f.sender r.observed (peerHeard f d m)
    generalize joinFrame after f.round f.roundStart f.sender r.observed (peerHeard f d m) = t at heq hraised hstamp
    have htable : t.roundCtl.peers = tableUpdate s.roundCtl.peers f.sender (Peer.heardFrom f d) := by
      rw [heq]; simp only [hpeers, hroundCtl]
    refine ⟨t, rfl, ?time, ?ctl, ?others, ?sender, ?free, ?restamped, ?frame⟩
    case time => rw [heq, hupkeep, hfree]; rfl
    case ctl => rw [htable, heq]; simp only [hpeers, hroundCtl]
    case others => exact fun k hne => by rw [htable, tableUpdate_get_ne _ _ _ _ hne]
    case sender =>
      intro q hq
      have hq' : m.roundCtl.peers[f.sender]? = some q := by rw [hroundCtl]; exact hq
      refine ⟨⟨clampDeviation d, clampDeviation_range d, fun hin => ?_, ?_⟩, ?_⟩
      · rw [← hd, joinDeviation, if_pos hin]; rfl
      · rw [htable, tableUpdate_get_self, hq]; rfl
      · rw [hraised, peerHeard_pending d hq', hnotice]
    case free => intro hin; rw [heq, hupkeep, ← hm, joiningState, if_pos hin]; rfl
    case restamped => exact restamped_congr (by rw [hupkeep, hfree]; rfl) (by rw [hupkeep, hfree]; rfl) hstamp
    case frame => rw [heq, hupkeep, hfree]; rfl
  · have hnojoin : ¬ joinsFromColdstart s.profile r f = true := by
      rw [joinsFromColdstart_iff]
      rintro (⟨-, hlower⟩ | ⟨hregular, -, -⟩)
      · omega
      · rw [hstart] at hregular; exact absurd hregular (by decide)
    have hstays : takeChecked after r f (endReception s) = endReception s := by
      simp [takeChecked, hsync, hnojoin, takeInRound, passesRound, hin, hstart]
    rw [hstays]
    rfl

end Sys2Proof.Machine
end

section
/-! SETTLED. FRAME_COMPLETE of a frame that passes every check (O54). -/

namespace Sys2Proof.Machine

/-- A deviation handed to the timebase changes the deviation list alone (R9). -/
theorem handDeviation_eq (r : Reception) (f : Frame) (s : State) :
    handDeviation r f s =
      { s with timebase :=
        { s.timebase with
          deviations :=
            if f.isReference && r.inRound && r.epoch == s.timebase.epoch then
              tableUpdate s.timebase.deviations f.sender (fun _ =>
                some { value := frameDeviation s.profile r f.sender, named := f.heard.getLsbD s.profile.station })
            else s.timebase.deviations } } := by
  unfold handDeviation
  split <;> rfl

/-- A frame in JOINING, SYNCED or HOLDOVER, and one that COLDSTART does not take for joining, is judged in its round
(R22, R48). -/
theorem takeChecked_running {s : State} {r : Reception} {f : Frame} (after : Octet)
    (hrun : roundsRun s.timebase.sync = true)
    (hcold : s.timebase.sync = .coldstart → ¬ joinsFromColdstart s.profile r f = true) :
    takeChecked after r f s = takeInRound r f s := by
  cases hsync : s.timebase.sync with
  | off => simp [hsync, roundsRun] at hrun
  | listen => simp [hsync, roundsRun] at hrun
  | coldstart => simp [takeChecked, hsync, hcold hsync]
  | joining => simp [takeChecked, hsync]
  | synced => simp [takeChecked, hsync]
  | holdover => simp [takeChecked, hsync]

/-- Rounds run in the four states of R5. -/
theorem roundsRun_iff (y : Sync) :
    roundsRun y = true ↔ y = .coldstart ∨ y = .joining ∨ y = .synced ∨ y = .holdover := by
  cases y <;> simp [roundsRun]

/-- Items are handed on in SYNCED and HOLDOVER (R33). -/
theorem handItems_eq {f : Frame} {s : State} :
    handItems f s = if trusted s.timebase.sync then f.items.foldl (handItem f.sender) s else s := rfl

/-- Of the states in which rounds run, COLDSTART and JOINING are not trusted. -/
theorem trusted_iff {y : Sync} (h : roundsRun y = true) : trusted y = true ↔ ¬ (y = .coldstart ∨ y = .joining) := by
  cases y <;> simp_all [roundsRun, trusted]

/-- The swap field where it is not taken, or names no round (R33, R132). -/
theorem handSwapField_stays {f : Frame} {s : State} (h : s.timebase.sync = .coldstart ∨ f.pendingSwap = none) :
    handSwapField f s = s := by
  rcases h with h | h
  · simp [handSwapField, h, takesSwapField]
  · simp [handSwapField, h]

/-- The swap field taken as a proposal (R132). -/
theorem handSwapField_proposes {f : Frame} {s : State} {round : Word16} (hrun : roundsRun s.timebase.sync = true)
    (hcold : s.timebase.sync ≠ .coldstart) (hf : f.pendingSwap = some round) : handSwapField f s = propose round s := by
  have htakes : takesSwapField s.timebase.sync = true := by
    cases h : s.timebase.sync <;> simp_all [roundsRun, takesSwapField]
  simp [handSwapField, htakes, hf]

/-- A reference frame is a STARTUP frame, or REGULAR with the synced flag set (R9). -/
theorem isReference_iff (f : Frame) : f.isReference = true ↔ f.startup = true ∨ f.synced = true := by
  simp [Frame.isReference]

/-- Settles O54: the frame reaches `takeValid`, whose three hand-overs are read one after another; the items by their
kinds. -/
theorem validFrameTaken : Obligations.ValidFrameTaken := by
  refine ⟨?frame, fun s sender => ⟨fun m => ?_, fun target c tag g => ?_, fun target tag => ?_, fun q => ?_⟩⟩
  case frame =>
    intro s r f octets after hsync hlower hrec hf htag hsender h16 hown hin hround arrival deviation untrusted hwindow
    have hrun : roundsRun s.timebase.sync = true := (roundsRun_iff _).2 hsync
    have hk : f.sender ∈ peerNumbers (endReception s).profile := mem_peerNumbers.2 ⟨hsender, h16, hown⟩
    have hnojoin : s.timebase.sync = .coldstart → ¬ joinsFromColdstart s.profile r f = true := by
      rw [joinsFromColdstart_iff]
      rintro hcold (⟨hstart, hless⟩ | ⟨-, -, hfails⟩)
      · have := hlower hcold hstart; omega
      · exact hfails ⟨hin, hround, hwindow⟩
    have hexec : exec (.frameComplete ⟨octets, after⟩) s = .next (takeValid r f (endReception s)) := by
      rw [exec_frameComplete_checked after hrec hf htag hsender hown, takeChecked_running after (by exact hrun) (by exact hnojoin),
        takeInRound_valid hin hround (by exact hwindow)]
    have hu := handDeviation_eq r f (peerHeard f deviation (endReception s))
    have hpeer := peerHeard_eq f deviation (endReception s)
    have htable := peerHeard_roundCtl deviation hk
    have hraised := @peerHeard_pending f deviation (endReception s)
    have hvalid : takeValid r f (endReception s) =
        handItems f (handSwapField f (handDeviation r f (peerHeard f deviation (endReception s)))) := rfl
    generalize hp : peerHeard f deviation (endReception s) = p at hu hpeer htable hraised hvalid
    have htime : p.timebase = s.timebase := by rw [hpeer]; rfl
    have hprofile : p.profile = s.profile := by rw [hpeer]; rfl
    generalize hud : handDeviation r f p = u at hu hvalid
    have hsyncU : u.timebase.sync = s.timebase.sync := by rw [hu, ← htime]
    have hctl : u.roundCtl = p.roundCtl := by rw [hu]
    have hdevs := congrArg (fun x : State => x.timebase.deviations) hu
    simp only [htime, hprofile] at hdevs
    have href : (f.isReference && r.inRound && r.epoch == s.timebase.epoch) = true ↔
        (f.startup = true ∨ f.synced = true) ∧ r.epoch = s.timebase.epoch := by
      simp [isReference_iff, hin]
    refine ⟨u, handSwapField f u, handItems f (handSwapField f u), hexec.trans (congrArg _ hvalid), ?untrusted, ?trusted,
      ?noSwap, ?swap, ?frame, ?time, ?otherDevs, ?deviation, ?noDeviation, ?ctl, ?otherPeers, ?sender⟩
    case untrusted =>
      intro h
      have : ¬ trusted s.timebase.sync = true := fun ht => (trusted_iff hrun).1 ht h
      simp [handItems_eq, hsyncU, this]
    case trusted =>
      intro h
      have : trusted s.timebase.sync = true := (trusted_iff hrun).2 h
      simp [handItems_eq, hsyncU, this]
    case noSwap =>
      intro h
      exact handSwapField_stays (by rwa [hsyncU])
    case swap =>
      intro round hcold hswap
      exact handSwapField_proposes (by rwa [hsyncU]) (by rwa [hsyncU]) hswap
    case frame => rw [hu, hpeer]; rfl
    case time => rw [hu, htime]
    case otherDevs =>
      intro k hne
      rw [hdevs]
      split
      · exact tableUpdate_get_ne _ _ _ _ hne
      · rfl
    case deviation =>
      intro hr he
      rw [hdevs, if_pos (href.2 ⟨hr, he⟩), tableUpdate_get_self]
      simp only [h16, Vector.getElem?_eq_getElem, Option.map_some]
      rfl
    case noDeviation => intro h; rw [hdevs, if_neg (fun hb => h (href.1 hb))]
    case ctl => rw [hctl, htable]; rfl
    case otherPeers => intro k hne; rw [hctl, htable]; exact tableUpdate_get_ne _ _ _ _ hne
    case sender =>
      intro q hq
      refine ⟨?_, ?_⟩
      · rw [hctl, htable]
        exact (tableUpdate_get_self _ _ _).trans (congrArg (Option.map _) hq)
      · have : u.notice = p.notice := by rw [hu]
        rw [this]
        exact hraised hq
  · simp [handItem]
  · simp [handItem]
  · simp [handItem]
  · simp [handItem]

end Sys2Proof.Machine
end

section
/-! SETTLED. ROUND_END and the transitions of the state machine (O50). -/

namespace Sys2Proof.Machine

/-- The notices after SYNC_CHANGE (R35). -/
theorem raise_syncChange (s : State) :
    raise .syncChange s =
      { s with notice := { s.notice with pending := s.notice.pending ||| 1, raised := s.notice.raised ||| 1 } } := by
  rw [← mask_syncChange]; rfl

/-- The hold unit without SYNC among its reasons: release pending where that leaves it HELD with none (R153). -/
theorem HoldUnit.sync_removed (h : HoldUnit) :
    (if (h.setReason .sync false).held && (h.setReason .sync false).noReason then
      { h.setReason .sync false with releasePending := true }
    else h.setReason .sync false) =
      { h with
        reasonSync := false
        releasePending := h.releasePending || (h.held && !h.reasonLine && !h.reasonCommand) } := by
  obtain ⟨held, sync, line, command, pending, active, run, due⟩ := h
  cases held <;> cases line <;> cases command <;> simp [HoldUnit.setReason, HoldUnit.noReason]

/-- SYNC removed from the reasons of the hold unit (R153). -/
theorem removeReason_sync (s : State) :
    removeReason .sync s =
      { s with hold := { s.hold with
        reasonSync := false
        releasePending := s.hold.releasePending || (s.hold.held && !s.hold.reasonLine && !s.hold.reasonCommand) } } :=
  congrArg (fun h => { s with hold := h }) (HoldUnit.sync_removed s.hold)

/-- The entry into SYNCED (R24, R35, R148). -/
theorem enterSynced_eq (s : State) :
    enterSynced s =
      { s with
        timebase := { s.timebase with sync := .synced, thin := 0, unheard := 0 }
        notice := { s.notice with pending := s.notice.pending ||| 1, raised := s.notice.raised ||| 1 }
        hold := { s.hold with
          reasonSync := false
          releasePending :=
            s.hold.releasePending || (s.hold.held && !s.hold.reasonLine && !s.hold.reasonCommand) } } := by
  have hremove : enterSynced s =
      removeReason .sync (raise .syncChange (timeUpdate (fun t => { t with sync := .synced })
        (timeUpdate (fun t => { t with thin := 0, unheard := 0 }) s))) := rfl
  rw [hremove, removeReason_sync, raise_syncChange]
  rfl

/-- The entry into HOLDOVER, which the hold unit takes as a reason only under hold-on-holdover (R28, R35, R148). -/
theorem enterSync_holdover (s : State) :
    enterSync .holdover s =
      let u := { s with
        timebase := { s.timebase with sync := .holdover }
        notice := { s.notice with pending := s.notice.pending ||| 1, raised := s.notice.raised ||| 1 } }
      if s.profile.holdOnHoldover then addReason .sync u else u := by
  have htakes : enterSync .holdover s =
      let u := raise .syncChange (timeUpdate (fun t => { t with sync := .holdover }) s)
      if s.profile.holdOnHoldover then addReason .sync u else u := rfl
  rw [htakes, raise_syncChange]
  rfl

/-- SYNC added to the reasons of a HELD unit (R153). -/
theorem addReason_sync_held {s : State} (h : s.hold.held = true) :
    addReason .sync s = { s with hold := { s.hold with reasonSync := true, releasePending := false } } := by
  simp [addReason, h, holdUpdate, HoldUnit.setReason]

/-- SYNC added to the reasons of a RELEASED unit (R152). -/
theorem addReason_sync_released {s : State} (h : s.hold.held = false) :
    addReason .sync s = enterHeld { s with hold := { s.hold with reasonSync := true } } := by
  simp [addReason, h, holdUpdate, HoldUnit.setReason]

/-- A correction within the limit: |c| ≤ C. -/
theorem withinLimit_iff (p : Profile) (c : Int) : withinLimit p c = true ↔ c.natAbs ≤ p.corrLimit := by
  simp [withinLimit]

/-- The step has reached the end of a round that runs (R6). -/
theorem roundEndDue_iff (s : State) :
    roundEndDue s = true ↔ roundsRun s.timebase.sync = true ∧
      reached s.timebase.nt (s.timebase.rs + BitVec.ofNat 48 s.profile.period) = true := by
  simp [roundEndDue, roundEndInstant, ntAdd]

/-- ROUND_END where no end of a round is due. -/
theorem takeRoundEnd_none {s : State} (order : RoundOrder) (h : ¬ roundEndDue s = true) : takeRoundEnd order s = s := by
  simp [takeRoundEnd, h]

/-- ROUND_END where the end of a round is due: recording, transition, and the next round where rounds run on (R6). -/
theorem takeRoundEnd_due {s : State} (order : RoundOrder) (h : roundEndDue s = true) :
    takeRoundEnd order s =
      let u := roundTransition order (roundCorrection s.timebase) (roundRefs s.timebase) (roundNaming s.timebase)
        (timeUpdate recordRound s)
      if roundsRun u.timebase.sync then
        startRound order s.timebase.sync (roundCorrection s.timebase) (roundRefs s.timebase) u
      else u := by
  simp [takeRoundEnd, h]

section Transitions

variable {s : State} (order : RoundOrder) {c : Int} {refs naming : Nat}

/-- The transition in COLDSTART (R24). -/
theorem roundTransition_coldstart (h : s.timebase.sync = .coldstart) :
    roundTransition order c refs naming s =
      if s.profile.minRefs ≤ refs ∧ c.natAbs ≤ s.profile.corrLimit then enterSynced s
      else if 8 ≤ s.timebase.coldRounds + 1 then coldstartFails order s
      else timeUpdate (fun t => { t with coldRounds := t.coldRounds + 1 }) s := by
  simp [roundTransition, h, coldstartRoundEnd, withinLimit_iff]

/-- The transition in JOINING (R25, R26). -/
theorem roundTransition_joining (h : s.timebase.sync = .joining) :
    roundTransition order c refs naming s =
      if s.timebase.joinCount = 0 then
        if c.natAbs ≤ s.profile.corrLimit then timeUpdate (fun t => { t with joinCount := 1 }) s
        else fallToListen order (some .correctionLimit) s
      else if refs = 0 then fallToListen order none s
      else if ¬ c.natAbs ≤ s.profile.corrLimit then fallToListen order (some .correctionLimit) s
      else if s.timebase.joinCount = 1 then timeUpdate (fun t => { t with joinCount := 2 }) s
      else enterSynced (timeUpdate (fun t => { t with joinCount := 0 }) s) := by
  simp [roundTransition, h, joiningRoundEnd, withinLimit]

/-- The transition in SYNCED (R27, R28). -/
theorem roundTransition_synced (h : s.timebase.sync = .synced) :
    roundTransition order c refs naming s =
      let s1 := timeUpdate (countRound s.profile refs naming) s
      if ¬ c.natAbs ≤ s.profile.corrLimit then fallToListen order (some .correctionLimit) s1
      else if 4 ≤ s1.timebase.unheard then fallToListen order (some .unheard) s1
      else if 2 ≤ s1.timebase.thin then
        if s.profile.holdover = 0 then fallToListen order none s1
        else enterSync .holdover (timeUpdate (fun t => { t with holdRounds := 0, thin := 0, unheard := 0 }) s1)
      else s1 := by
  simp [roundTransition, h, syncedRoundEnd, withinLimit]

/-- The transition in HOLDOVER (R29). -/
theorem roundTransition_holdover (h : s.timebase.sync = .holdover) :
    roundTransition order c refs naming s =
      if ¬ c.natAbs ≤ s.profile.corrLimit then fallToListen order (some .correctionLimit) s
      else if s.profile.minRefs ≤ refs then enterSynced (timeUpdate (fun t => { t with holdRounds := 0 }) s)
      else if s.profile.holdover ≤ s.timebase.holdRounds + 1 then fallToListen order none s
      else timeUpdate (fun t => { t with holdRounds := t.holdRounds + 1 }) s := by
  simp [roundTransition, h, holdoverRoundEnd, withinLimit]

end Transitions

/-- Settles O50: ROUND_END by its cause, and the transition by the state it is taken in. -/
theorem roundEndTransitions : Obligations.RoundEndTransitions := by
  refine ⟨?roundEnd, ?transition⟩
  case roundEnd =>
    intro s order running devs c refs naming due u
    have hdue : due ↔ roundEndDue s = true := by rw [roundEndDue_iff, roundsRun_iff]
    refine ⟨fun h => ?_, fun h hstop => ?_, fun h hrun => ?_⟩
    · exact congrArg Host.Outcome.next (takeRoundEnd_none order (fun hd => h (hdue.2 hd)))
    · exact congrArg Host.Outcome.next
        ((takeRoundEnd_due order (hdue.1 h)).trans (if_neg fun hr => hstop ((roundsRun_iff _).1 hr)))
    · exact congrArg Host.Outcome.next
        ((takeRoundEnd_due order (hdue.1 h)).trans (if_pos ((roundsRun_iff _).2 hrun)))
  intro s order c refs naming p t within falls syncChange synced
  refine ⟨fun hsync => ?coldstart, fun hsync => ?joining, fun hsync => ?synced, fun hsync => ?holdover⟩
  case coldstart =>
    have ht : t = _ := roundTransition_coldstart order hsync
    refine ⟨fun hm hw => ?_, fun hbad hfew => ?_, fun hbad hmany => ?_⟩
    · exact ht.trans ((if_pos ⟨hm, hw⟩).trans (enterSynced_eq s))
    · exact ht.trans ((if_neg hbad).trans (if_neg (by omega)))
    · exact ht.trans ((if_neg hbad).trans (if_pos (by omega)))
  case joining =>
    have ht : t = _ := roundTransition_joining order hsync
    refine ⟨fun h0 hw => ?_, fun h0 hw => ?_, fun h0 hr => ?_, fun h0 hr hw => ?_, fun h1 hr hw => ?_,
      fun h2 hr hw => ?_⟩
    · exact ht.trans ((if_pos h0).trans (if_neg hw))
    · exact ht.trans ((if_pos h0).trans (if_pos hw))
    · exact ht.trans ((if_neg h0).trans (if_pos hr))
    · exact ht.trans ((if_neg h0).trans ((if_neg (by omega)).trans (if_pos hw)))
    · exact ht.trans ((if_neg (by omega)).trans ((if_neg (by omega)).trans ((if_neg (not_not.2 hw)).trans (if_pos h1))))
    · refine ht.trans ((if_neg (by omega)).trans ((if_neg (by omega)).trans ((if_neg (not_not.2 hw)).trans
        ((if_neg (by omega)).trans ?_))))
      exact enterSynced_eq _
  case synced =>
    have ht : t = _ := roundTransition_synced order hsync
    intro thin unheard counted
    refine ⟨fun hw => ?_, fun hw hu => ?_, fun hw hu hthin h0 => ?_, fun hw hu hthin h0 => ?_, fun hw hu hthin => ?_⟩
    · exact ht.trans (if_pos hw)
    · exact ht.trans ((if_neg (not_not.2 hw)).trans (if_pos hu))
    · exact ht.trans ((if_neg (not_not.2 hw)).trans ((if_neg (Nat.not_le.2 hu)).trans ((if_pos hthin).trans (if_pos h0))))
    · intro u
      have henter : t = if s.profile.holdOnHoldover then addReason .sync u else u :=
        ht.trans ((if_neg (not_not.2 hw)).trans ((if_neg (Nat.not_le.2 hu)).trans ((if_pos hthin).trans
          ((if_neg h0).trans (enterSync_holdover _)))))
      refine ⟨fun hoff => ?_, fun hon hheld => ?_, fun hon hheld => ?_⟩
      · exact henter.trans (if_neg (by rw [hoff]; decide))
      · exact henter.trans ((if_pos hon).trans (addReason_sync_held hheld))
      · exact henter.trans ((if_pos hon).trans (addReason_sync_released hheld))
    · exact ht.trans ((if_neg (not_not.2 hw)).trans ((if_neg (Nat.not_le.2 hu)).trans (if_neg (Nat.not_le.2 hthin))))
  case holdover =>
    have ht : t = _ := roundTransition_holdover order hsync
    refine ⟨fun hw => ?_, fun hw hm => ?_, fun hw hm hlong => ?_, fun hw hm hshort => ?_⟩
    · exact ht.trans (if_pos hw)
    · exact ht.trans ((if_neg (not_not.2 hw)).trans ((if_pos hm).trans (enterSynced_eq _)))
    · exact ht.trans ((if_neg (not_not.2 hw)).trans ((if_neg (Nat.not_le.2 hm)).trans (if_pos hlong)))
    · exact ht.trans ((if_neg (not_not.2 hw)).trans ((if_neg (Nat.not_le.2 hm)).trans (if_neg (Nat.not_le.2 hshort))))

end Sys2Proof.Machine
end

section
/-! SUPPORT. What the round start of the peers and of the request unit does (R54, R56, R169 to R172). -/

namespace Sys2Proof.Machine

/-! ### Notices only grow -/

/-- Every pending cause of s is pending in t. -/
def State.pendingGrows (s t : State) : Prop :=
  ∀ b, s.notice.pending.getLsbD b = true → t.notice.pending.getLsbD b = true

theorem pendingGrows_of_eq {s t : State} (h : t.notice = s.notice) : s.pendingGrows t := fun _ hb => by rwa [h]

theorem State.pendingGrows.trans {s t u : State} (h : s.pendingGrows t) (h' : t.pendingGrows u) : s.pendingGrows u :=
  fun b hb => h' b (h b hb)

/-- A cause raised joins those that are pending (R192). -/
theorem raise_pendingGrows (c : Cause) (s : State) : s.pendingGrows (raise c s) := fun b hb => by simp [hb]

/-- A fold of steps that each keep the pending causes keeps them. -/
theorem foldl_pendingGrows {α : Type} {f : State → α → State} (h : ∀ (s : State) (x : α), s.pendingGrows (f s x)) (l : List α)
    (s : State) : s.pendingGrows (l.foldl f s) :=
  foldl_inv (fun u x hu => State.pendingGrows.trans hu (h u x)) l s (pendingGrows_of_eq rfl)

/-- A record handed to a ring raises causes at most (R83, R85). -/
theorem takeRecord_pendingGrows (k : Nat) (octets : Nat → List Octet) (s : State) : s.pendingGrows (takeRecord k octets s) := by
  unfold takeRecord
  split
  · exact pendingGrows_of_eq rfl
  · split
    · simp only [writeRecord]
      split
      · exact State.pendingGrows.trans (pendingGrows_of_eq rfl) (raise_pendingGrows _ _)
      · exact pendingGrows_of_eq rfl
    · simp only [dropRecord]
      split
      · exact pendingGrows_of_eq rfl
      · exact State.pendingGrows.trans (pendingGrows_of_eq rfl) (raise_pendingGrows _ _)

/-- A report raises causes at most (R81). -/
theorem journalReport_pendingGrows (r : ReportRecord) (s : State) : s.pendingGrows (journalReport r s) := by
  simp only [journalReport]
  split
  · exact pendingGrows_of_eq rfl
  · split
    · exact (takeRecord_pendingGrows _ _ s).trans (raise_pendingGrows _ _)
    · exact takeRecord_pendingGrows _ _ s

/-- A completion raises causes at most (R169). -/
theorem completeRecord_pendingGrows (place : Nat) (code : Octet) (x : Carried) (s : State) :
    s.pendingGrows (completeRecord place code x s) := by
  unfold completeRecord
  split
  · exact pendingGrows_of_eq rfl
  · have hset : s.pendingGrows (setRecord place none s) := pendingGrows_of_eq rfl
    exact hset.trans (journalReport_pendingGrows _ _)

/-! ### The peers (R56) -/

/-- A count of silent rounds reaches 3 from 2. -/
theorem Peer.silentRound_eq (q : Peer) :
    q.silentRound =
      { q with
        silent := min (q.silent + 1) 255
        state := if q.state = .heard ∧ q.silent = 2 then .lost else q.state } := by
  have h3 : min (q.silent + 1) 255 = 3 ↔ q.silent = 2 := by omega
  simp [Peer.silentRound, h3]

/-- A silent round changes the state of a HEARD peer silent for two rounds before, and of no other (R56). -/
theorem Peer.silentRound_state_ne (q : Peer) :
    (q.state != q.silentRound.state) = true ↔ q.state = .heard ∧ q.silent = 2 := by
  rw [Peer.silentRound_eq]
  by_cases h : q.state = .heard ∧ q.silent = 2
  · simp [h]
  · simp [h]

/-- One peer's count of silence, as a change of its place (R56). -/
theorem countSilence_peers (s : State) (k : Nat) :
    (countSilence s k).roundCtl =
      { s.roundCtl with
        peers := tableUpdate s.roundCtl.peers k fun q =>
          if s.roundCtl.heardNow.getLsbD k then q else q.silentRound } := by
  unfold countSilence
  cases hk : s.roundCtl.heardNow.getLsbD k with
  | true => simp [tableUpdate_eq_self]
  | false =>
    simp only [Bool.false_eq_true, if_false]
    split <;> rfl

/-- Counting silence changes the peer table only, within the round controller. -/
theorem foldl_countSilence_roundCtl (l : List Nat) (s : State) :
    (l.foldl countSilence s).roundCtl = { s.roundCtl with peers := (l.foldl countSilence s).roundCtl.peers } := by
  have hstep (u : State) (k : Nat) (hu : u.roundCtl = { s.roundCtl with peers := u.roundCtl.peers }) :
      (countSilence u k).roundCtl = { s.roundCtl with peers := (countSilence u k).roundCtl.peers } := by
    rw [countSilence_peers, hu]
  exact foldl_inv hstep l s rfl

/-- The peers after silence has been counted: those of the list that were not heard are silent for one round more. -/
theorem foldl_countSilence_peers {l : List Nat} (hl : l.Nodup) (s : State) (k : Nat) :
    (l.foldl countSilence s).roundCtl.peers[k]? =
      if k ∈ l ∧ s.roundCtl.heardNow.getLsbD k = false then s.roundCtl.peers[k]?.map Peer.silentRound
      else s.roundCtl.peers[k]? := by
  have hfold := foldl_places (fun u : State => u.roundCtl.heardNow = s.roundCtl.heardNow)
    (fun u k => u.roundCtl.peers[k]?) countSilence
    (fun k => Option.map fun q => if s.roundCtl.heardNow.getLsbD k then q else q.silentRound)
    (fun u i h => by rw [countSilence_peers]; exact h)
    (fun u i h => by rw [countSilence_peers, h]; exact tableUpdate_get_self _ _ _)
    (fun u i j _ hj => by rw [countSilence_peers]; exact tableUpdate_get_ne _ _ _ _ hj)
    l s rfl hl k
  rw [hfold]
  cases hh : s.roundCtl.heardNow.getLsbD k <;> by_cases hk : k ∈ l <;> simp [hk]

/-- The peer numbers are distinct and ascending. -/
theorem peerNumbers_pairwise (p : Profile) : (peerNumbers p).Pairwise (· < ·) := List.pairwise_lt_range.filter _

theorem peerNumbers_nodup (p : Profile) : (peerNumbers p).Nodup := (peerNumbers_pairwise p).imp Nat.ne_of_lt

/-- A peer becomes LOST: HEARD, not heard in the round that ends, and silent in the two before (R56). -/
theorem mem_peersLost {s : State} {k : Nat} :
    k ∈ peersLost s ↔
      (k < s.profile.stations ∧ k < 16 ∧ k ≠ s.profile.station ∧ s.roundCtl.heardNow.getLsbD k = false) ∧
        ∃ q, s.roundCtl.peers[k]? = some q ∧ q.state = .heard ∧ q.silent = 2 := by
  simp only [peersLost, List.mem_filter, mem_peerNumbers, Bool.and_eq_true, Bool.not_eq_true', Option.any_eq_true,
    Peer.silentRound_state_ne]
  tauto

/-- PEER_CHANGE stands after silence has been counted of a peer that becomes LOST (R56). -/
theorem foldl_countSilence_raises {k : Nat} {q : Peer} (hstate : q.state = .heard) (hsilent : q.silent = 2) :
    ∀ (l : List Nat) (s : State), l.Nodup → k ∈ l → s.roundCtl.heardNow.getLsbD k = false →
      s.roundCtl.peers[k]? = some q → (l.foldl countSilence s).notice.pending.getLsbD 5 = true
  | [], _, _, hk, _, _ => absurd hk List.not_mem_nil
  | i :: l, s, hl, hk, hheard, hq => by
    obtain ⟨hi, hl⟩ := List.nodup_cons.1 hl
    have hgrows : (countSilence s i).pendingGrows (l.foldl countSilence (countSilence s i)) := by
      refine foldl_pendingGrows (fun u j => ?_) _ _
      simp only [countSilence]
      split
      · exact pendingGrows_of_eq rfl
      · split
        · exact State.pendingGrows.trans (pendingGrows_of_eq rfl) (raise_pendingGrows _ _)
        · exact pendingGrows_of_eq rfl
    by_cases hki : k = i
    · subst hki
      refine hgrows 5 ?_
      have hlost : (s.roundCtl.peers[k]?).any (fun p => p.state != p.silentRound.state) = true := by
        simp only [hq, Option.any_some]
        exact (Peer.silentRound_state_ne q).2 ⟨hstate, hsilent⟩
      simp [countSilence, hheard, hlost, mask_peerChange]
    · refine foldl_countSilence_raises hstate hsilent l _ hl ((List.mem_cons.1 hk).resolve_left hki) ?_ ?_
      · rw [countSilence_peers]; exact hheard
      · rw [countSilence_peers]; exact (tableUpdate_get_ne _ _ _ _ hki).trans hq

/-! ### The outbound table (R169, R171, R172) -/

/-- Records are read from the request unit alone. -/
theorem recordOf_congr {s t : State} (h : t.request.table = s.request.table) (i : Nat) : recordOf t i = recordOf s i := by
  simp [recordOf, h]

/-- The places found are read from the records alone. -/
theorem recordsWhere_eq (p : OutRecord → Bool) (s : State) :
    recordsWhere p s = (List.range 16).filter fun i => (recordOf s i).any p := by
  simp only [recordsWhere, placesWhere, recordOf]
  congr 1
  funext i
  cases s.request.table[i]? <;> rfl

/-- Only a place below 16 holds a record. -/
theorem lt_of_recordOf {s : State} {i : Nat} {r : OutRecord} (h : recordOf s i = some r) : i < 16 := by
  by_contra hi
  simp [recordOf, hi] at h

theorem mem_recordsWhere {p : OutRecord → Bool} {s : State} {i : Nat} :
    i ∈ recordsWhere p s ↔ ∃ r, recordOf s i = some r ∧ p r = true := by
  rw [recordsWhere_eq, List.mem_filter, List.mem_range, Option.any_eq_true]
  exact ⟨fun h => h.2, fun ⟨r, hr, hp⟩ => ⟨lt_of_recordOf hr, r, hr, hp⟩⟩

theorem recordsWhere_pairwise (p : OutRecord → Bool) (s : State) : (recordsWhere p s).Pairwise (· < ·) := by
  rw [recordsWhere_eq]
  exact List.pairwise_lt_range.filter _

/-- A completion empties its place and no other (R169). -/
theorem recordOf_completeRecord (place : Nat) (code : Octet) (x : Carried) (s : State) (i : Nat) :
    recordOf (completeRecord place code x s) i = if i = place then none else recordOf s i := by
  unfold completeRecord
  split
  · next h =>
    split
    · next hi => rw [hi, h]
    · rfl
  · simp only [recordOf, journalReport_frame, setRecord_frame, tableUpdate_get]
    by_cases hi : i = place
    · subst hi
      cases s.request.table[i]? <;> simp
    · simp [hi]

/-- A completion leaves the tag counter and the count of unsolicited reports alone (R169). -/
theorem completeRecord_counters (place : Nat) (code : Octet) (x : Carried) (s : State) :
    (completeRecord place code x s).request.tagCounter = s.request.tagCounter ∧
      (completeRecord place code x s).request.unsolicited = s.request.unsolicited := by
  unfold completeRecord
  split <;> simp

/-- The records at these places complete with a code, one after another, and carry nothing (R169). -/
def completeAll (code : Octet) (places : List Nat) (s : State) : State :=
  places.foldl (fun s place => completeRecord place code Carried.nothing s) s

theorem completeWhere_eq (p : OutRecord → Bool) (code : Octet) (s : State) :
    completeWhere p code s = completeAll code (recordsWhere p s) s := rfl

theorem completeAll_append (code : Octet) (l k : List Nat) (s : State) :
    completeAll code (l ++ k) s = completeAll code k (completeAll code l s) := List.foldl_append

theorem recordOf_completeAll (code : Octet) : ∀ (places : List Nat) (s : State) (i : Nat),
    recordOf (completeAll code places s) i = if i ∈ places then none else recordOf s i
  | [], s, i => by simp [completeAll]
  | p :: places, s, i => by
    have hrest := recordOf_completeAll code places (completeRecord p code Carried.nothing s) i
    rw [recordOf_completeRecord] at hrest
    refine hrest.trans ?_
    by_cases hp : i = p <;> by_cases hi : i ∈ places <;> simp [hp, hi]

theorem completeAll_counters (code : Octet) (places : List Nat) (s : State) :
    (completeAll code places s).request.tagCounter = s.request.tagCounter ∧
      (completeAll code places s).request.unsolicited = s.request.unsolicited :=
  ⟨foldl_keeps (fun s => s.request.tagCounter) (fun s x => (completeRecord_counters x code _ s).1) _ s,
    foldl_keeps (fun s => s.request.unsolicited) (fun s x => (completeRecord_counters x code _ s).2) _ s⟩

theorem completeAll_pendingGrows (code : Octet) (places : List Nat) (s : State) :
    s.pendingGrows (completeAll code places s) :=
  foldl_pendingGrows (fun u x => completeRecord_pendingGrows x code _ u) _ _

/-- A record is late when it is AWAITING and its reply deadline is reached (R171). -/
theorem pastDeadline_iff (deadline : Nat) (round : Word16) (r : OutRecord) :
    r.pastDeadline deadline round = true ↔ r.state = .awaiting ∧ ∃ sent, r.roundSent = some sent ∧
      deadline ≤ (round - sent).toNat ∧ (round - sent).toNat ≤ 32767 := by
  cases h : r.state <;> simp [OutRecord.pastDeadline, h, Option.any_eq_true]

/-- A record is orphaned by its target, unless it is QUEUED (R172). -/
theorem orphanedBy_iff (peer : Nat) (r : OutRecord) :
    r.orphanedBy peer = true ↔ r.target = peer ∧ r.state ≠ .queued := by
  cases h : r.state <;> simp [OutRecord.orphanedBy, h]

/-- The places whose reply deadline is reached at a round start, where such a start is taken (R171). -/
def State.lates (s : State) : List Nat :=
  if trusted s.timebase.sync then
    recordsWhere (OutRecord.pastDeadline s.profile.replyDeadline s.timebase.round) s
  else []

theorem requestRoundStart_eq (s : State) : requestRoundStart s = completeAll Code.noReply s.lates s := by
  unfold requestRoundStart State.lates
  split <;> rfl

/-- The places that the loss of these peers orphans, peer after peer (R172). -/
def State.orphans (lost : List Nat) (s : State) : List Nat := lost.flatMap fun k => recordsWhere (OutRecord.orphanedBy k) s

theorem mem_orphans {lost : List Nat} {s : State} {i : Nat} :
    i ∈ s.orphans lost ↔ ∃ r, recordOf s i = some r ∧ r.state ≠ .queued ∧ r.target ∈ lost := by
  simp only [State.orphans, List.mem_flatMap, mem_recordsWhere, orphanedBy_iff]
  constructor
  · rintro ⟨k, hk, r, hr, rfl, hq⟩; exact ⟨r, hr, hq, hk⟩
  · rintro ⟨r, hr, hq, hk⟩; exact ⟨r.target, hk, r, hr, rfl, hq⟩

theorem mem_lates {s : State} {i : Nat} :
    i ∈ s.lates ↔ ∃ r, recordOf s i = some r ∧ trusted s.timebase.sync = true ∧
      r.pastDeadline s.profile.replyDeadline s.timebase.round = true := by
  unfold State.lates
  split
  · next h => simp [mem_recordsWhere, h]
  · next h => simp [h]

theorem lates_pairwise (s : State) : s.lates.Pairwise (· < ·) := by
  unfold State.lates
  split
  · exact recordsWhere_pairwise _ _
  · exact List.Pairwise.nil

/-- The losses, one peer after another, are the completions of what they orphan (R172). -/
theorem takePeersLost_eq : ∀ (lost : List Nat) (s : State), lost.Nodup →
    lost.foldl (fun s k => takePeerLost k s) s = completeAll Code.orphaned (s.orphans lost) s
  | [], _, _ => rfl
  | k :: lost, s, hl => by
    obtain ⟨hk, hl⟩ := List.nodup_cons.1 hl
    have hplaces : (takePeerLost k s).orphans lost = s.orphans lost := by
      refine List.flatMap_congr fun k' hk' => ?_
      rw [recordsWhere_eq, recordsWhere_eq]
      refine List.filter_congr fun i _ => ?_
      rw [takePeerLost, completeWhere_eq, recordOf_completeAll]
      split
      · next hi =>
        obtain ⟨r, hr, hp⟩ := mem_recordsWhere.1 hi
        have hne : ¬ r.orphanedBy k' = true := by
          rw [orphanedBy_iff] at hp ⊢
          rintro ⟨ht, -⟩
          exact hk (by rwa [← hp.1, ht])
        simp [hr, Bool.eq_false_iff.2 hne]
      · rfl
    rw [List.foldl_cons, takePeersLost_eq lost _ hl, hplaces]
    exact (completeAll_append Code.orphaned (recordsWhere (OutRecord.orphanedBy k) s) (s.orphans lost) s).symm

/-- What is orphaned, in ascending order of the peers and of the places of each (R169; assumption 38). -/
theorem orphans_pairwise {lost : List Nat} (hl : lost.Pairwise (· < ·)) (s : State) :
    (s.orphans lost).Pairwise (fun i j => ∀ r q, recordOf s i = some r → recordOf s j = some q →
      r.target < q.target ∨ (r.target = q.target ∧ i < j)) := by
  refine List.pairwise_flatMap.2 ⟨fun k _ => ?_, hl.imp fun {k k'} hlt i hi j hj r q hr hq => ?_⟩
  · refine List.Pairwise.imp_of_mem (fun {i j} hi hj hlt r q hr hq => ?_) (recordsWhere_pairwise _ s)
    obtain ⟨r', hr', hp⟩ := mem_recordsWhere.1 hi
    obtain ⟨q', hq', hp'⟩ := mem_recordsWhere.1 hj
    obtain rfl := Option.some.inj (hr.symm.trans hr')
    obtain rfl := Option.some.inj (hq.symm.trans hq')
    exact Or.inr ⟨((orphanedBy_iff _ _).1 hp).1.trans ((orphanedBy_iff _ _).1 hp').1.symm, hlt⟩
  · obtain ⟨r', hr', hp⟩ := mem_recordsWhere.1 hi
    obtain ⟨q', hq', hp'⟩ := mem_recordsWhere.1 hj
    obtain rfl := Option.some.inj (hr.symm.trans hr')
    obtain rfl := Option.some.inj (hq.symm.trans hq')
    rw [((orphanedBy_iff _ _).1 hp).1, ((orphanedBy_iff _ _).1 hp').1]
    exact Or.inl hlt

theorem orphans_nodup {lost : List Nat} (hl : lost.Pairwise (· < ·)) (s : State) : (s.orphans lost).Nodup := by
  refine List.Pairwise.imp_of_mem (fun {i j} hi hj h hij => ?_) (orphans_pairwise hl s)
  subst hij
  obtain ⟨r, hr, -⟩ := mem_orphans.1 hi
  rcases h r r hr hr with h | ⟨-, h⟩ <;> omega

/-! ### The reports of completions (R169) -/

/-- The rings of the journal are the journal's. -/
theorem ringAt_congr {s t : State} (h : t.journal = s.journal) (k : Nat) : ringAt t k = ringAt s k := by
  simp [ringAt, h]

theorem takeRecord_journal_congr {s t : State} (h : t.journal = s.journal) (k : Nat) (octets : Nat → List Octet) :
    (takeRecord k octets t).journal = (takeRecord k octets s).journal := by
  unfold takeRecord
  rw [ringAt_congr h]
  split
  · exact h
  · split
    · simp only [writeRecord]
      split <;> simp [setRing, h]
    · simp only [dropRecord]
      split <;> simp [setRing, h]

/-- What a report leaves in the journal is judged by the journal alone (R81). -/
theorem journalReport_journal_congr {s t : State} (h : t.journal = s.journal) (r : ReportRecord) :
    (journalReport r t).journal = (journalReport r s).journal := by
  have hring : reportsRing t = reportsRing s := by simp only [reportsRing, ringAt_congr h]
  simp only [journalReport, hring]
  split
  · simp [h]
  · rw [ringAt_congr h]
    split <;> simp [takeRecord_journal_congr h]

/-- The report of the record that s0 holds at a place goes to the journal with a code (R169). -/
def outboundReport (s0 : State) (code : Octet) (u : State) (i : Nat) : State :=
  match recordOf s0 i with
  | none => u
  | some r => journalReport
    { origin := .outbound, station := r.target, channel := some r.channel, tag := r.tag, index := none
      code := code, fireCount := none, lastFire := none, detail := none } u

/-- The journal after completions holds the reports of the records as they stood before (R169). -/
theorem completeAll_journal (s0 : State) (code : Octet) : ∀ (places : List Nat) (u v : State), places.Nodup →
    (∀ i ∈ places, recordOf u i = recordOf s0 i) → u.journal = v.journal →
    (completeAll code places u).journal = (places.foldl (outboundReport s0 code) v).journal
  | [], _, _, _, _, h => h
  | p :: places, u, v, hnd, hrec, h => by
    obtain ⟨hp, hnd⟩ := List.nodup_cons.1 hnd
    refine completeAll_journal s0 code places (completeRecord p code Carried.nothing u) (outboundReport s0 code v p) hnd
      (fun i hi => ?_) ?_
    · rw [recordOf_completeRecord, if_neg (fun e => hp (by rwa [← e]))]
      exact hrec i (List.mem_cons_of_mem _ hi)
    · cases hr : recordOf s0 p with
      | none => simpa [completeRecord, outboundReport, hrec p List.mem_cons_self, hr] using h
      | some r =>
        simp only [completeRecord, outboundReport, hrec p List.mem_cons_self, hr]
        exact journalReport_journal_congr (by simpa using h) _

end Sys2Proof.Machine
end

section
/-! SETTLED. The round start of the timebase, the peers and the outbound records (O10). -/

namespace Sys2Proof.Machine

/-! ### The parts of a round start (R6) -/

/-- The timebase as round r + 1 begins, its slew not yet set (R6, R11). -/
def State.roundBegun (s : State) (applied : Bool) : Timebase :=
  { s.timebase with
    round := s.timebase.round + 1, rs := roundEndInstant s, epoch := s.timebase.epoch + 1
    deviations := Vector.replicate 16 none, corrApplied := applied }

/-- The state as the timebase has begun round r + 1 and no other block has taken it (R6, R11 to R13). -/
def State.nextRound (y : Sync) (c : Int) (refs : Nat) (s : State) : State :=
  let applied := applies s.profile y c refs
  { s with timebase := (s.roundBegun applied).withSlew s.profile applied c }

theorem startRound_eq (order : RoundOrder) (y : Sync) (c : Int) (refs : Nat) (s : State) :
    startRound order y c refs s =
      outputsRoundStart order.release
        (requestsRoundStart order (peersLost s) (peersRoundStart (s.nextRound y c refs))) := rfl

/-- The new round begins with the timebase alone. -/
@[simp] theorem nextRound_frame (y : Sync) (c : Int) (refs : Nat) (s : State) :
    (s.nextRound y c refs).pins = s.pins ∧ (s.nextRound y c refs).inReset = s.inReset ∧
    (s.nextRound y c refs).profile = s.profile ∧ (s.nextRound y c refs).roundCtl = s.roundCtl ∧
    (s.nextRound y c refs).channels = s.channels ∧ (s.nextRound y c refs).journal = s.journal ∧
    (s.nextRound y c refs).action = s.action ∧ (s.nextRound y c refs).cycle = s.cycle ∧
    (s.nextRound y c refs).hold = s.hold ∧ (s.nextRound y c refs).request = s.request ∧
    (s.nextRound y c refs).port = s.port ∧ (s.nextRound y c refs).notice = s.notice ∧
    (s.nextRound y c refs).freeCount = s.freeCount ∧ (s.nextRound y c refs).pending = s.pending := by
  simp [State.nextRound]

/-- The correction of a round is applied (R11). -/
theorem applies_iff (p : Profile) (y : Sync) (c : Int) (refs : Nat) :
    applies p y c refs = true ↔ c.natAbs ≤ p.corrLimit ∧ (if y = .holdover then p.minRefs else 1) ≤ refs := by
  have hrefs : refsToApply p y = if y = .holdover then p.minRefs else 1 := by cases y <;> rfl
  simp only [applies, Bool.and_eq_true, withinLimit_iff, decide_eq_true_iff, hrefs]

/-- A correction that is applied and is not zero is slewed (R12). -/
theorem withSlew_applied {p : Profile} {c : Int} (hc : c ≠ 0) (t : Timebase) :
    t.withSlew p true c = { t with slew := c, spacing := slewSpacing p c, slewLeft := slewSpacing p c } := by
  simp [Timebase.withSlew, hc]

/-- Otherwise the slew is zero (R13). -/
theorem withSlew_none {p : Profile} {c : Int} {applied : Bool} (h : applied = false ∨ c = 0) (t : Timebase) :
    t.withSlew p applied c = { t with slew := 0, spacing := 0, slewLeft := 0 } := by
  rcases h with h | h <;> simp [Timebase.withSlew, h]

/-- A slew touches its own fields of the timebase, and its count starts at the spacing. -/
theorem withSlew_frame (p : Profile) (applied : Bool) (c : Int) (t : Timebase) :
    t.withSlew p applied c =
      { t with
        slew := (t.withSlew p applied c).slew, spacing := (t.withSlew p applied c).spacing
        slewLeft := (t.withSlew p applied c).spacing } := by
  unfold Timebase.withSlew
  split <;> rfl

theorem nextRound_timebase (y : Sync) (c : Int) (refs : Nat) (s : State) :
    (s.nextRound y c refs).timebase =
      (s.roundBegun (applies s.profile y c refs)).withSlew s.profile (applies s.profile y c refs) c := rfl

@[simp] theorem nextRound_sync (y : Sync) (c : Int) (refs : Nat) (s : State) :
    (s.nextRound y c refs).timebase.sync = s.timebase.sync := by
  rw [nextRound_timebase, withSlew_frame]
  rfl

@[simp] theorem nextRound_round (y : Sync) (c : Int) (refs : Nat) (s : State) :
    (s.nextRound y c refs).timebase.round = s.timebase.round + 1 := by
  rw [nextRound_timebase, withSlew_frame]
  rfl

/-- The timebase after a round start is that of the new round. -/
theorem startRound_timebase (order : RoundOrder) (y : Sync) (c : Int) (refs : Nat) (s : State) :
    (startRound order y c refs s).timebase = (s.nextRound y c refs).timebase := by
  simp [startRound_eq]

/-- The round controller after a round start: silence counted, the heard record moved on (R54, R56). -/
theorem startRound_roundCtl (order : RoundOrder) (y : Sync) (c : Int) (refs : Nat) (s : State) :
    (startRound order y c refs s).roundCtl =
      { s.roundCtl with
        heardPrev := s.roundCtl.heardNow, heardNow := 0, sendTaken := false
        peers := ((peerNumbers s.profile).foldl countSilence (s.nextRound y c refs)).roundCtl.peers } := by
  have hctl : (startRound order y c refs s).roundCtl = (peersRoundStart (s.nextRound y c refs)).roundCtl := by
    simp [startRound_eq]
  rw [hctl, peersRoundStart, roundCtlUpdate]
  simp only
  rw [foldl_countSilence_roundCtl]
  rfl

/-! ### The completions of a round start (R171, R172) -/

theorem completeAll_frame (code : Octet) (places : List Nat) (s : State) :
    (completeAll code places s).profile = s.profile ∧ (completeAll code places s).timebase = s.timebase :=
  ⟨foldl_keeps State.profile (fun s x => by simp) _ s, foldl_keeps State.timebase (fun s x => by simp) _ s⟩

/-- The record is late where deadlines are judged: its reply deadline is reached in SYNCED or HOLDOVER (R171). -/
def State.lateIn (s : State) (r : OutRecord) : Prop :=
  trusted s.timebase.sync = true ∧ r.pastDeadline s.profile.replyDeadline s.timebase.round = true

/-- The record is orphaned by the loss of these peers (R172). -/
def OutRecord.orphanedIn (lost : List Nat) (r : OutRecord) : Prop := r.state ≠ .queued ∧ r.target ∈ lost

/-- The round start of the request unit completes what is orphaned and what is late, either first; a record that is both
completes with the first (R171, R172; assumption 7). -/
theorem requestsRoundStart_completes (order : RoundOrder) {lost : List Nat} (hl : lost.Pairwise (· < ·)) (u : State) :
    ∃ orphans lates : List Nat,
      (∀ i, i ∈ orphans ↔ ∃ r, recordOf u i = some r ∧ r.orphanedIn lost ∧ (u.lateIn r → order.lossFirst = true)) ∧
      (∀ i, i ∈ lates ↔ ∃ r, recordOf u i = some r ∧ u.lateIn r ∧ (r.orphanedIn lost → order.lossFirst = false)) ∧
      orphans.Pairwise (fun i j => ∀ r q, recordOf u i = some r → recordOf u j = some q →
        r.target < q.target ∨ (r.target = q.target ∧ i < j)) ∧
      orphans.Nodup ∧ lates.Pairwise (· < ·) ∧
      requestsRoundStart order lost u =
        if order.lossFirst then completeAll Code.noReply lates (completeAll Code.orphaned orphans u)
        else completeAll Code.orphaned orphans (completeAll Code.noReply lates u) := by
  have hnd : lost.Nodup := hl.imp Nat.ne_of_lt
  cases hfirst : order.lossFirst with
  | true =>
    obtain ⟨hprofile, htime⟩ := completeAll_frame Code.orphaned (u.orphans lost) u
    refine ⟨u.orphans lost, (completeAll Code.orphaned (u.orphans lost) u).lates, fun i => ?_, fun i => ?_,
      orphans_pairwise hl u, orphans_nodup hl u, lates_pairwise _, ?_⟩
    · simp [mem_orphans, OutRecord.orphanedIn]
    · rw [mem_lates, recordOf_completeAll, hprofile, htime]
      split
      · next hi =>
        obtain ⟨r, hr, horphan⟩ := mem_orphans.1 hi
        simp [hr, OutRecord.orphanedIn, horphan]
      · next hi =>
        refine exists_congr fun r => and_congr_right fun hr => ?_
        have hnot : ¬ r.orphanedIn lost := fun h => hi (mem_orphans.2 ⟨r, hr, h⟩)
        simp [State.lateIn, hnot]
    · simp [requestsRoundStart, hfirst, takePeersLost_eq lost u hnd, requestRoundStart_eq]
  | false =>
    have hrec (i : Nat) : recordOf (completeAll Code.noReply u.lates u) i = if i ∈ u.lates then none else recordOf u i :=
      recordOf_completeAll _ _ _ _
    refine ⟨(completeAll Code.noReply u.lates u).orphans lost, u.lates, fun i => ?_, fun i => ?_, ?_,
      orphans_nodup hl _, lates_pairwise _, ?_⟩
    · rw [mem_orphans, hrec]
      split
      · next hi =>
        obtain ⟨r, hr, hlate⟩ := mem_lates.1 hi
        have hlate : u.lateIn r := hlate
        simp [hr, hlate]
      · next hi =>
        refine exists_congr fun r => and_congr_right fun hr => ?_
        have hnot : ¬ u.lateIn r := fun h => hi (mem_lates.2 ⟨r, hr, h⟩)
        simp [OutRecord.orphanedIn, hnot]
    · rw [mem_lates]
      simp [State.lateIn]
    · refine List.Pairwise.imp_of_mem (fun {i j} hi hj h r q hr hq => ?_) (orphans_pairwise hl _)
      obtain ⟨r', hr', -⟩ := mem_orphans.1 hi
      obtain ⟨q', hq', -⟩ := mem_orphans.1 hj
      have still {i : Nat} {x y : OutRecord} (hx : recordOf (completeAll Code.noReply u.lates u) i = some x)
          (hy : recordOf u i = some y) : recordOf (completeAll Code.noReply u.lates u) i = some y := by
        rw [hrec] at hx ⊢
        split at hx
        · cases hx
        · next hi => rw [if_neg hi, hy]
      exact h r q (still hr' hr) (still hq' hq)
    · simp [requestsRoundStart, hfirst, takePeersLost_eq lost _ hnd, requestRoundStart_eq]

/-- What the completions of a round start, in their order, leave of a record (R171, R172). -/
theorem recordOf_completed (first : Bool) (a b : Octet) (l k : List Nat) (u : State) (i : Nat) :
    recordOf (if first then completeAll a l (completeAll b k u) else completeAll b k (completeAll a l u)) i =
      if i ∈ k ∨ i ∈ l then none else recordOf u i := by
  cases first <;> by_cases hl : i ∈ l <;> by_cases hk : i ∈ k <;> simp [recordOf_completeAll, hl, hk]

theorem completed_counters (first : Bool) (a b : Octet) (l k : List Nat) (u : State) :
    (if first then completeAll a l (completeAll b k u) else completeAll b k (completeAll a l u)).request.tagCounter =
        u.request.tagCounter ∧
      (if first then completeAll a l (completeAll b k u) else completeAll b k (completeAll a l u)).request.unsolicited =
        u.request.unsolicited := by
  cases first <;> simp [completeAll_counters]

/-- The journal after the completions of a round start, where no place completes twice (R169). -/
theorem completed_journal (first : Bool) {a b : Octet} {l k : List Nat} {s u : State} (hl : l.Nodup) (hk : k.Nodup)
    (hdisjoint : ∀ i ∈ l, i ∉ k) (hrec : ∀ i, recordOf u i = recordOf s i) (hj : u.journal = s.journal) :
    (if first then completeAll a l (completeAll b k u) else completeAll b k (completeAll a l u)).journal =
      (if first then l.foldl (outboundReport s a) (k.foldl (outboundReport s b) s)
      else k.foldl (outboundReport s b) (l.foldl (outboundReport s a) s)).journal := by
  cases first with
  | true =>
    refine completeAll_journal s a l _ _ hl (fun i hi => ?_) (completeAll_journal s b k u s hk (fun i _ => hrec i) hj)
    rw [recordOf_completeAll, if_neg (hdisjoint i hi), hrec]
  | false =>
    refine completeAll_journal s b k _ _ hk (fun i hi => ?_) (completeAll_journal s a l u s hl (fun i _ => hrec i) hj)
    rw [recordOf_completeAll, if_neg (fun h => hdisjoint i h hi), hrec]

/-! ### Notices of the round start -/

/-- The hold and cycle units raise causes at most (R127, R154). -/
theorem takeSwap_pendingGrows (s : State) : s.pendingGrows (takeSwap s) := by
  unfold takeSwap
  split
  · have hcycle (f : CycleUnit → CycleUnit) : s.pendingGrows (cycleUpdate f s) := pendingGrows_of_eq rfl
    split <;> exact (hcycle _).trans (raise_pendingGrows _ _)
  · exact pendingGrows_of_eq rfl

theorem cycleRoundStart_pendingGrows (s : State) : s.pendingGrows (cycleRoundStart s) := by
  have hswap : s.pendingGrows (takeSwap (takeDueCyclic s)) :=
    State.pendingGrows.trans (pendingGrows_of_eq (by simp)) (takeSwap_pendingGrows _)
  simp only [cycleRoundStart]
  split <;> exact hswap.trans (pendingGrows_of_eq rfl)

theorem holdRoundStart_pendingGrows (s : State) : s.pendingGrows (holdRoundStart s) := by
  unfold holdRoundStart
  split
  · simp only [leaveHeld]
    exact State.pendingGrows.trans (pendingGrows_of_eq (by simp)) (raise_pendingGrows _ _)
  · exact pendingGrows_of_eq rfl

theorem outputsRoundStart_pendingGrows (order : ReleaseOrder) (s : State) :
    s.pendingGrows (outputsRoundStart order s) := by
  cases order with
  | releaseFirst => exact (holdRoundStart_pendingGrows s).trans (cycleRoundStart_pendingGrows _)
  | roundStartFirst n =>
    have hfires : (cycleRoundStart s).pendingGrows (takeOffsetZero n (cycleRoundStart s)) :=
      pendingGrows_of_eq (by simp)
    exact ((cycleRoundStart_pendingGrows s).trans hfires).trans (holdRoundStart_pendingGrows _)

theorem completed_pendingGrows (first : Bool) (a b : Octet) (l k : List Nat) (u : State) :
    u.pendingGrows (if first then completeAll a l (completeAll b k u) else completeAll b k (completeAll a l u)) := by
  cases first with
  | true => exact (completeAll_pendingGrows b k u).trans (completeAll_pendingGrows a l _)
  | false => exact (completeAll_pendingGrows a l u).trans (completeAll_pendingGrows b k _)

/-- The trusted states are SYNCED and HOLDOVER. -/
theorem trusted_eq (y : Sync) : trusted y = true ↔ y = .synced ∨ y = .holdover := by
  cases y <;> simp [trusted]

/-- Settles O10: the timebase, the peers, the notices and the records of a round start, each by the lemma of its part. -/
theorem roundStartOfPeersAndRequests : Obligations.RoundStartOfPeersAndRequests := by
  intro s order y c refs t round silent becomesLost orphaned late applied
  have htime : t.timebase = _ := (startRound_timebase order y c refs s).trans (nextRound_timebase y c refs s)
  have hctl := startRound_roundCtl order y c refs s
  have happlied : applies s.profile y c refs = true ↔ applied := applies_iff s.profile y c refs
  have hlost {k : Nat} : k ∈ peersLost s ↔ becomesLost k := mem_peersLost
  have hsorted : (peersLost s).Pairwise (· < ·) := (peerNumbers_pairwise s.profile).filter _
  obtain ⟨orphans, lates, horphans, hlates, hop, hond, hlp, hreq⟩ :=
    requestsRoundStart_completes order hsorted (peersRoundStart (s.nextRound y c refs))
  have hrec (i : Nat) : recordOf (peersRoundStart (s.nextRound y c refs)) i = recordOf s i :=
    recordOf_congr (by simp) i
  have hjournal : (peersRoundStart (s.nextRound y c refs)).journal = s.journal := by simp
  have horphaned (r : OutRecord) : r.orphanedIn (peersLost s) ↔ orphaned r := and_congr_right fun _ => hlost
  have hlate (r : OutRecord) : (peersRoundStart (s.nextRound y c refs)).lateIn r ↔ late r := by
    simp only [State.lateIn, pastDeadline_iff, peersRoundStart_frame, trusted_eq, nextRound_sync, nextRound_round,
      nextRound_frame]
    exact Iff.rfl
  simp only [hrec, hlate, horphaned] at horphans hlates hop
  have hdone : t.request = (requestsRoundStart order (peersLost s) (peersRoundStart (s.nextRound y c refs))).request ∧
      t.journal = (requestsRoundStart order (peersLost s) (peersRoundStart (s.nextRound y c refs))).journal := by
    simp [t, startRound_eq]
  rw [hreq] at hdone
  have hafter (i : Nat) : recordOf t i = if i ∈ orphans ∨ i ∈ lates then none else recordOf s i := by
    rw [recordOf_congr (congrArg RequestUnit.table hdone.1), recordOf_completed, hrec]
  have hcounters := completed_counters order.lossFirst Code.noReply Code.orphaned lates orphans
    (peersRoundStart (s.nextRound y c refs))
  refine ⟨?time, ?applied, ?slews, ?noSlew, ?ctl, ?peers, ?peerChange, ?records, ?tag, ?unsolicited,
    orphans, lates, horphans, hlates, hop, hlp, ?journal⟩
  case time =>
    rw [htime, withSlew_frame]
    rfl
  case applied =>
    rw [htime, withSlew_frame]
    exact happlied
  case slews =>
    intro ha
    rw [htime, happlied.2 ha]
    by_cases hc : c = 0
    · rw [withSlew_none (Or.inr hc)]
      exact ⟨hc.symm, fun h => absurd hc h⟩
    · rw [withSlew_applied hc]
      exact ⟨rfl, fun _ => rfl⟩
  case noSlew =>
    intro h
    rw [htime, withSlew_none (h.imp_left fun hn => Bool.eq_false_iff.2 fun hb => hn (happlied.1 hb))]
    exact ⟨rfl, rfl⟩
  case ctl => rw [hctl]
  case peers =>
    intro k q hq
    have hpeers : t.roundCtl.peers[k]? =
        if k ∈ peerNumbers s.profile ∧ s.roundCtl.heardNow.getLsbD k = false then some q.silentRound else some q := by
      rw [hctl]
      refine (foldl_countSilence_peers (peerNumbers_nodup s.profile) (s.nextRound y c refs) k).trans ?_
      simp only [nextRound_frame, hq, Option.map_some]
    have hsilent : silent k ↔ k ∈ peerNumbers s.profile ∧ s.roundCtl.heardNow.getLsbD k = false := by
      rw [mem_peerNumbers]; simp only [silent, and_assoc]
    rw [hpeers, hsilent]
    exact ⟨fun h => by rw [if_pos h, Peer.silentRound_eq], fun h => by rw [if_neg h]⟩
  case peerChange =>
    rintro ⟨k, ⟨hst, h16, hown, hheard⟩, q, hq, hstate, hsil⟩
    have hraised := foldl_countSilence_raises hstate hsil (peerNumbers s.profile) (s.nextRound y c refs)
      (peerNumbers_nodup s.profile) (mem_peerNumbers.2 ⟨hst, h16, hown⟩) hheard hq
    have hgrows : (requestsRoundStart order (peersLost s) (peersRoundStart (s.nextRound y c refs))).pendingGrows t :=
      outputsRoundStart_pendingGrows order.release _
    refine hgrows 5 ?_
    rw [hreq]
    exact completed_pendingGrows _ _ _ _ _ _ 5 hraised
  case records =>
    intro i r hr
    have ho : i ∈ orphans ↔ orphaned r ∧ (late r → order.lossFirst = true) := by simp [horphans, hr]
    have hl : i ∈ lates ↔ late r ∧ (orphaned r → order.lossFirst = false) := by simp [hlates, hr]
    rw [hafter]
    simp only [ho, hl]
    refine ⟨fun h => if_pos ?_, fun hno hnl => (if_neg fun h => ?_).trans hr⟩
    · cases hf : order.lossFirst <;> by_cases h1 : orphaned r <;> by_cases h2 : late r <;> simp_all
    · exact h.elim (fun h => hno h.1) (fun h => hnl h.1)
  case tag => rw [hdone.1, hcounters.1]; simp
  case unsolicited => rw [hdone.1, hcounters.2]; simp
  case journal =>
    have hdisjoint : ∀ i ∈ lates, i ∉ orphans := by
      intro i hl ho
      obtain ⟨r, hr, h1, h2⟩ := (horphans i).1 ho
      obtain ⟨q, hq, h3, h4⟩ := (hlates i).1 hl
      obtain rfl := Option.some.inj (hr.symm.trans hq)
      exact absurd ((h2 h3).symm.trans (h4 h1)) (by decide)
    rw [hdone.2]
    exact completed_journal order.lossFirst (hlp.imp Nat.ne_of_lt) hond hdisjoint hrec hjournal

end Sys2Proof.Machine
end

section
/-! SUPPORT. What the hold unit and the cycle unit make of a round start (R127, R130, R135 to R137, R154, R157). -/

namespace Sys2Proof.Machine

/-! ### The outputs depend on the outputs -/

/-- Two states agree in what the cycle unit, the hold unit and the channel units read of a state and change in it. -/
def State.sameOutputs (a b : State) : Prop :=
  a.profile = b.profile ∧ a.timebase = b.timebase ∧ a.channels = b.channels ∧ a.cycle = b.cycle ∧ a.hold = b.hold

section Congruence

variable {a b : State}

theorem sameOutputs_raise (h : a.sameOutputs b) (c e : Cause) : (raise c a).sameOutputs (raise e b) := by
  simpa [State.sameOutputs] using h

theorem sameOutputs_driveUpdate (h : a.sameOutputs b) (c : Nat) (f : Drive → Drive) :
    (driveUpdate c f a).sameOutputs (driveUpdate c f b) := by
  obtain ⟨hprofile, htime, hchannels, hcycle, hhold⟩ := h
  have hcfg : driveCfg a c = driveCfg b c := by simp only [driveCfg, channelCfg, hprofile]
  refine ⟨by simpa using hprofile, by simpa using htime, ?_, by simpa using hcycle, by simpa using hhold⟩
  simp only [driveUpdate, hcfg, htime, hchannels]
  split
  · exact hchannels
  · rfl

theorem sameOutputs_cycleUpdate (h : a.sameOutputs b) (f : CycleUnit → CycleUnit) :
    (cycleUpdate f a).sameOutputs (cycleUpdate f b) := by
  obtain ⟨hprofile, htime, hchannels, hcycle, hhold⟩ := h
  exact ⟨hprofile, htime, hchannels, congrArg f hcycle, hhold⟩

theorem sameOutputs_fireCyclic (h : a.sameOutputs b) (d : CyclicDue) :
    (fireCyclic d a).sameOutputs (fireCyclic d b) := by
  have hlist := sameOutputs_cycleUpdate h fun c => { c with fireList := c.fireList.filter fun x => x.index != d.index }
  have hfired := sameOutputs_driveUpdate hlist d.entry.channel fun dr =>
    { dr with requests := dr.requests ++
        [{ kind := .cyclicStart, due := d.instant, key := d.index, index := d.index, level := d.entry.effect.startLevel }] }
  obtain ⟨-, htime, -, hcycle, -⟩ := h
  simp only [fireCyclic, hcycle, htime]
  split
  · exact hlist
  · split
    · exact hfired
    · exact hfired
    · exact sameOutputs_cycleUpdate hfired _

theorem dueCyclic_congr (h : a.sameOutputs b) : dueCyclic a = dueCyclic b := by
  obtain ⟨-, htime, -, hcycle, -⟩ := h
  simp only [dueCyclic, htime, hcycle]

theorem sameOutputs_takeCyclicFire (h : a.sameOutputs b) : (takeCyclicFire a).sameOutputs (takeCyclicFire b) := by
  simp only [takeCyclicFire, dueCyclic_congr h]
  split
  · exact h
  · exact sameOutputs_fireCyclic h _

theorem sameOutputs_takeDueCyclic (h : a.sameOutputs b) : (takeDueCyclic a).sameOutputs (takeDueCyclic b) := by
  simp only [takeDueCyclic, dueCyclic_congr h]
  exact List.foldl_rel h fun _ _ _ _ => sameOutputs_takeCyclicFire

theorem sameOutputs_takeOffsetZero (h : a.sameOutputs b) (n : Nat) :
    (takeOffsetZero n a).sameOutputs (takeOffsetZero n b) := by
  simp only [takeOffsetZero, dueCyclic_congr h]
  exact List.foldl_rel h fun d _ _ _ hcd => sameOutputs_fireCyclic hcd d

theorem sameOutputs_takeSwap (h : a.sameOutputs b) : (takeSwap a).sameOutputs (takeSwap b) := by
  obtain ⟨-, htime, -, hcycle, -⟩ := id h
  simp only [takeSwap, htime, hcycle]
  split
  · split <;> exact sameOutputs_raise (sameOutputs_cycleUpdate h _) _ _
  · exact sameOutputs_cycleUpdate h _

theorem fireListOf_congr (h : a.sameOutputs b) : fireListOf a = fireListOf b := by
  obtain ⟨-, htime, -, hcycle, -⟩ := h
  simp only [fireListOf, htime, hcycle]

theorem sameOutputs_cycleRoundStart (h : a.sameOutputs b) : (cycleRoundStart a).sameOutputs (cycleRoundStart b) := by
  have hswap := sameOutputs_takeSwap (sameOutputs_takeDueCyclic h)
  obtain ⟨-, htime, -, -, -⟩ := id hswap
  simp only [cycleRoundStart, fireListOf_congr hswap, htime]
  split <;> exact sameOutputs_cycleUpdate hswap _

theorem sameOutputs_releaseAll (h : a.sameOutputs b) : (releaseAll a).sameOutputs (releaseAll b) := by
  unfold releaseAll
  exact List.foldl_rel h fun c _ _ _ hcd => sameOutputs_driveUpdate hcd c _

theorem sameOutputs_holdUpdate (h : a.sameOutputs b) (f : HoldUnit → HoldUnit) :
    (holdUpdate f a).sameOutputs (holdUpdate f b) := by
  obtain ⟨hprofile, htime, hchannels, hcycle, hhold⟩ := h
  exact ⟨hprofile, htime, hchannels, hcycle, congrArg f hhold⟩

theorem sameOutputs_actionLeavesHeld (h : a.sameOutputs b) :
    (actionLeavesHeld a).sameOutputs (actionLeavesHeld b) := h

theorem sameOutputs_holdRoundStart (h : a.sameOutputs b) : (holdRoundStart a).sameOutputs (holdRoundStart b) := by
  obtain ⟨-, -, -, -, hhold⟩ := id h
  simp only [holdRoundStart, hhold]
  split
  · simp only [leaveHeld]
    refine sameOutputs_raise (sameOutputs_cycleUpdate (sameOutputs_actionLeavesHeld (sameOutputs_releaseAll ?_)) _) _ _
    exact sameOutputs_holdUpdate h _
  · exact h

theorem sameOutputs_outputsRoundStart (h : a.sameOutputs b) (order : ReleaseOrder) :
    (outputsRoundStart order a).sameOutputs (outputsRoundStart order b) := by
  cases order with
  | releaseFirst => exact sameOutputs_cycleRoundStart (sameOutputs_holdRoundStart h)
  | roundStartFirst n =>
    exact sameOutputs_holdRoundStart (sameOutputs_takeOffsetZero (sameOutputs_cycleRoundStart h) n)

end Congruence

/-! ### The release -/

theorem holdRoundStart_none {s : State} (h : s.hold.releasePending = false) : holdRoundStart s = s := by
  simp [holdRoundStart, h]

/-- The release leaves HELD in the hold unit, the action unit and the cycle unit (R115, R130, R154). -/
theorem holdRoundStart_release {s : State} (h : s.hold.releasePending = true) :
    (holdRoundStart s).hold = { s.hold with held := false, releasePending := false } ∧
      (holdRoundStart s).action = { s.action with held := false } ∧
      (holdRoundStart s).cycle = { s.cycle with held := false } := by
  simp [holdRoundStart, h, leaveHeld, cycleLeavesHeld, actionLeavesHeld, holdUpdate, cycleUpdate, raise]

/-! ### The swap (R135 to R137) -/

/-- The cycle unit without its lists and its hold: what a swap is about. -/
def CycleUnit.swapSide (c : CycleUnit) : CycleUnit := { c with fireList := [], pulseEnds := [], held := false }

/-- The cycle unit as its pending swap is executed, skipped, or not due at the start of this round (R135 to R137). -/
def CycleUnit.atRound (round : Word16) (c : CycleUnit) : CycleUnit :=
  if c.pendingSwap = some round then
    if c.staged = .ready then c.swapped else { c with skip := true, pendingSwap := none }
  else { c with skip := false }

theorem takeSwap_cycle (s : State) : (takeSwap s).cycle = s.cycle.atRound s.timebase.round := by
  unfold takeSwap CycleUnit.atRound
  split
  · split
    · next h => rw [if_pos h]; rfl
    · next h => rw [if_neg (by simp [h])]; rfl
    · next h => rw [if_neg (by simp [h])]; rfl
  · rfl

theorem atRound_swapSide (round : Word16) (c : CycleUnit) :
    (c.atRound round).swapSide = (c.swapSide.atRound round).swapSide := by
  by_cases hswap : c.pendingSwap = some round
  · by_cases hready : c.staged = .ready
    · have hside : c.swapSide.atRound round = c.swapSide.swapped := (if_pos hswap).trans (if_pos hready)
      have hunit : c.atRound round = c.swapped := (if_pos hswap).trans (if_pos hready)
      rw [hside, hunit]
      cases hrun : c.running <;> simp [CycleUnit.swapped, CycleUnit.swapSide, hrun]
    · have hside : c.swapSide.atRound round = _ := (if_pos hswap).trans (if_neg hready)
      have hunit : c.atRound round = _ := (if_pos hswap).trans (if_neg hready)
      rw [hside, hunit]
      rfl
  · have hside : c.swapSide.atRound round = _ := if_neg hswap
    have hunit : c.atRound round = _ := if_neg hswap
    rw [hside, hunit]
    rfl

theorem fireCyclic_swapSide (d : CyclicDue) (s : State) : (fireCyclic d s).cycle.swapSide = s.cycle.swapSide := by
  have hlist : (cycleUpdate (fun c => { c with fireList := c.fireList.filter fun x => x.index != d.index }) s).cycle.swapSide =
      s.cycle.swapSide := rfl
  simp only [fireCyclic]
  split
  · exact hlist
  · split <;> simp [cycleUpdate, CycleUnit.swapSide]

theorem takeDueCyclic_swapSide (s : State) : (takeDueCyclic s).cycle.swapSide = s.cycle.swapSide := by
  refine foldl_keeps (fun s => s.cycle.swapSide) (fun s _ => ?_) _ s
  simp only [takeCyclicFire]
  split
  · rfl
  · exact fireCyclic_swapSide _ _

theorem takeOffsetZero_swapSide (n : Nat) (s : State) : (takeOffsetZero n s).cycle.swapSide = s.cycle.swapSide :=
  foldl_keeps (fun s => s.cycle.swapSide) (fun s d => fireCyclic_swapSide d s) _ s

/-- The fire list of a round start beside the swap. -/
theorem cycleRoundStart_cycle (s : State) :
    (cycleRoundStart s).cycle =
      { (takeSwap (takeDueCyclic s)).cycle with
        fireList := if trusted s.timebase.sync then fireListOf (takeSwap (takeDueCyclic s)) else [] } := by
  simp only [cycleRoundStart]
  split <;> rename_i h <;> simp only [takeSwap_frame, takeDueCyclic_frame] at h <;> simp [h, cycleUpdate]

theorem cycleRoundStart_swapSide (s : State) :
    (cycleRoundStart s).cycle.swapSide = (s.cycle.swapSide.atRound s.timebase.round).swapSide := by
  have hlists : (cycleRoundStart s).cycle.swapSide = (takeSwap (takeDueCyclic s)).cycle.swapSide := by
    rw [cycleRoundStart_cycle]; rfl
  rw [hlists, takeSwap_cycle, atRound_swapSide, takeDueCyclic_swapSide]
  simp only [takeDueCyclic_frame]

theorem holdRoundStart_swapSide (s : State) : (holdRoundStart s).cycle.swapSide = s.cycle.swapSide := by
  cases h : s.hold.releasePending with
  | false => rw [holdRoundStart_none h]
  | true =>
    obtain ⟨-, -, hcycle⟩ := holdRoundStart_release h
    rw [hcycle]
    rfl

/-- The swap of a round start, in either order of the two units. -/
theorem outputsRoundStart_swapSide (order : ReleaseOrder) (s : State) :
    (outputsRoundStart order s).cycle.swapSide = (s.cycle.swapSide.atRound s.timebase.round).swapSide := by
  cases order with
  | releaseFirst =>
    have h := cycleRoundStart_swapSide (holdRoundStart s)
    simp only [holdRoundStart_swapSide, holdRoundStart_frame] at h
    exact h
  | roundStartFirst n =>
    exact (holdRoundStart_swapSide _).trans ((takeOffsetZero_swapSide n _).trans (cycleRoundStart_swapSide s))

/-! ### The fire list (R127, R157) -/

/-- Of a list whose keys rise, the first n elements are those with less than n elements before them. -/
theorem mem_take_of_rising {α : Type} (key : α → Nat) :
    ∀ {l : List α} (n : Nat), l.Pairwise (fun a b => key a < key b) → ∀ {x : α}, x ∈ l →
      (x ∈ l.take n ↔ (l.filter fun y => decide (key y < key x)).length < n)
  | [], _, _, _, hx => by simp at hx
  | a :: l, 0, _, _, _ => by simp
  | a :: l, n + 1, h, x, hx => by
    obtain ⟨ha, hl⟩ := List.pairwise_cons.1 h
    rcases List.mem_cons.1 hx with rfl | hx
    · have hlater : l.filter (fun y => decide (key y < key x)) = [] :=
        List.filter_eq_nil_iff.2 fun y hy => by simpa using Nat.le_of_lt (ha y hy)
      simp [hlater]
    · have hne : x ≠ a := fun h => Nat.lt_irrefl _ (h ▸ ha x hx)
      simp [hne, ha x hx, mem_take_of_rising key n hl hx]

/-- A list whose keys rise stands in the order of the keys. -/
theorem sortOrdered_of_rising {α : Type} (key : α → Nat) {l : List α} (h : l.Pairwise fun a b => key a < key b) :
    sortOrdered (fun a b => decide (key a < key b)) l = l := by
  have keeps : ∀ (acc l : List α), (acc ++ l).Pairwise (fun a b => key a < key b) →
      l.foldl (fun acc x => insertOrdered (fun a b => decide (key a < key b)) x acc) acc = acc ++ l := by
    intro acc l
    induction l generalizing acc with
    | nil => simp
    | cons x l ih =>
      intro hsorted
      have hlast : insertOrdered (fun a b => decide (key a < key b)) x acc = acc ++ [x] := by
        have hbefore : ∀ a ∈ acc, key a < key x := fun a ha =>
          (List.pairwise_append.1 hsorted).2.2 a ha x (by simp)
        clear hsorted ih
        induction acc with
        | nil => rfl
        | cons a acc ih =>
          have hnot : ¬ key x < key a := Nat.not_lt.2 (Nat.le_of_lt (hbefore a (by simp)))
          simp [insertOrdered, hnot, ih fun b hb => hbefore b (by simp [hb])]
      rw [List.foldl_cons, hlast, ih _ (by simpa using hsorted), List.append_assoc, List.singleton_append]
  exact keeps [] l h

/-- The fire list holds the entries of the running bank that select the round (R127). -/
theorem mem_fireListOf {s : State} {d : CyclicDue} :
    d ∈ fireListOf s ↔ s.cycle.runningBank[d.index]? = some (some d.entry) ∧
      s.timebase.round.toNat % 2 ^ d.entry.exp = d.entry.phase ∧
      d.instant = s.timebase.rs + d.entry.offset.setWidth 48 := by
  have hinstant (o : Word32) : ntAdd s.timebase.rs o.toNat = s.timebase.rs + o.setWidth 48 := by
    rw [ntAdd, BitVec.ofNat_toNat]
  obtain ⟨i, e, t⟩ := d
  simp only [fireListOf, List.mem_filterMap, List.mem_range, Option.bind_eq_some_iff, Option.join_eq_some_iff,
    Option.ite_none_right_eq_some, Option.some.injEq, CyclicDue.mk.injEq, CyclicEntry.selects, beq_iff_eq, hinstant]
  constructor
  · rintro ⟨_, -, _, hplace, hselects, rfl, rfl, rfl⟩
    exact ⟨hplace, hselects, rfl⟩
  · rintro ⟨hplace, hselects, rfl⟩
    exact ⟨i, (Vector.getElem?_eq_some_iff.1 hplace).1, e, hplace, hselects, rfl, rfl, rfl⟩

/-- The places of the fire list rise. -/
theorem fireListOf_rising (s : State) : (fireListOf s).Pairwise fun a b => a.index < b.index := by
  refine List.Pairwise.filterMap _ (fun i j hij d hd e he => ?_) List.pairwise_lt_range
  simp only [Option.bind_eq_some_iff, Option.ite_none_right_eq_some] at hd he
  obtain ⟨_, -, -, hd⟩ := hd
  obtain ⟨_, -, -, he⟩ := he
  cases hd
  cases he
  exact hij

theorem fireCyclic_fireList (d : CyclicDue) (s : State) :
    (fireCyclic d s).cycle.fireList = s.cycle.fireList.filter fun x => x.index != d.index := by
  simp only [fireCyclic]
  split
  · rfl
  · split <;> simp [cycleUpdate]

/-- Fires leave the fire list, each by its place (R128). -/
theorem foldl_fireCyclic_fireList (l : List CyclicDue) (s : State) :
    (l.foldl (fun s d => fireCyclic d s) s).cycle.fireList =
      s.cycle.fireList.filter fun x => l.all fun d => x.index != d.index := by
  induction l generalizing s with
  | nil => simp
  | cons d l ih => rw [List.foldl_cons, ih, fireCyclic_fireList, List.filter_filter]; simp [Bool.and_comm]

/-- The offset-0 fires of a round are due from its start, so all of them are due (R157). -/
theorem dueCyclic_offsetZero {s : State} (hlist : s.cycle.fireList = fireListOf s)
    (hdue : reached s.timebase.nt s.timebase.rs = true) :
    (dueCyclic s).filter (fun d => d.entry.offset == 0) = (fireListOf s).filter fun d => d.entry.offset == 0 := by
  have hsorted : dueCyclic s = (fireListOf s).filter fun d => reached s.timebase.nt d.instant := by
    rw [dueCyclic, hlist]
    exact sortOrdered_of_rising CyclicDue.index ((fireListOf_rising s).filter _)
  rw [hsorted, List.filter_filter]
  refine List.filter_congr fun d hd => ?_
  cases hzero : d.entry.offset == 0 with
  | false => rfl
  | true =>
    obtain ⟨-, -, hinstant⟩ := mem_fireListOf.1 hd
    rw [hinstant, beq_iff_eq.1 hzero]
    simpa using hdue

/-- The offset-0 fires before a place are the places before it whose entry fires at offset 0 in this round. -/
theorem offsetZero_before (s : State) (k : Nat) :
    (((fireListOf s).filter fun d => d.entry.offset == 0).filter fun d => decide (d.index < k)).length =
      ((List.range k).filter fun i => ((s.cycle.runningBank[i]?).join).any fun e =>
        e.offset == 0 && s.timebase.round.toNat % 2 ^ e.exp == e.phase).length := by
  rw [← List.length_map (f := CyclicDue.index)]
  refine List.Perm.length_eq ((List.perm_ext_iff_of_nodup ?_ (List.nodup_range.filter _)).2 fun i => ?_)
  · refine List.pairwise_map.2 (((fireListOf_rising s).filter _).filter _ |>.imp ?_)
    exact fun hlt => Nat.ne_of_lt hlt
  · simp only [List.mem_map, List.mem_filter, mem_fireListOf, List.mem_range, decide_eq_true_eq, beq_iff_eq,
      Option.any_eq_true, Option.join_eq_some_iff, Bool.and_eq_true]
    constructor
    · rintro ⟨d, ⟨⟨⟨hplace, hselects, -⟩, hzero⟩, hlt⟩, rfl⟩
      exact ⟨hlt, d.entry, hplace, hzero, hselects⟩
    · rintro ⟨hlt, e, hplace, hzero, hselects⟩
      exact ⟨⟨i, e, s.timebase.rs + e.offset.setWidth 48⟩, ⟨⟨⟨hplace, hselects, rfl⟩, hzero⟩, hlt⟩, rfl⟩

/-- The fire list less its first n offset-0 fires (R130, R157). -/
theorem takeOffsetZero_fireList {s : State} (hlist : s.cycle.fireList = fireListOf s)
    (hdue : reached s.timebase.nt s.timebase.rs = true) (n : Nat) (d : CyclicDue) :
    d ∈ (takeOffsetZero n s).cycle.fireList ↔ d ∈ fireListOf s ∧
      (d.entry.offset = 0 →
        n ≤ ((List.range d.index).filter fun i => ((s.cycle.runningBank[i]?).join).any fun e =>
          e.offset == 0 && s.timebase.round.toNat % 2 ^ e.exp == e.phase).length) := by
  have hrising := (fireListOf_rising s).filter fun d => d.entry.offset == 0
  rw [takeOffsetZero, foldl_fireCyclic_fireList, dueCyclic_offsetZero hlist hdue, hlist, List.mem_filter,
    ← offsetZero_before]
  refine and_congr_right fun hd => ?_
  have hplace {x y : CyclicDue} (hx : x ∈ fireListOf s) (hy : y ∈ fireListOf s) (h : x.index = y.index) : x = y := by
    obtain ⟨hxp, -, hxi⟩ := mem_fireListOf.1 hx
    obtain ⟨hyp, -, hyi⟩ := mem_fireListOf.1 hy
    rw [h, hyp] at hxp
    obtain ⟨i, e, t⟩ := x
    obtain ⟨j, f, u⟩ := y
    simp_all
  have htaken : (((fireListOf s).filter fun d => d.entry.offset == 0).take n).all (fun x => d.index != x.index) = true ↔
      d ∉ ((fireListOf s).filter fun d => d.entry.offset == 0).take n := by
    simp only [List.all_eq_true, bne_iff_ne]
    refine ⟨fun h hmem => h d hmem rfl, fun h x hx heq => h ?_⟩
    have hxmem := List.mem_of_mem_filter (List.mem_of_mem_take hx)
    rwa [hplace hd hxmem heq]
  rw [htaken]
  by_cases hzero : d.entry.offset = 0
  · rw [mem_take_of_rising CyclicDue.index n hrising (List.mem_filter.2 ⟨hd, by simpa using hzero⟩)]
    simp [hzero]
  · have hnot : d ∉ ((fireListOf s).filter fun d => d.entry.offset == 0).take n := fun h =>
      hzero (by simpa using (List.mem_filter.1 (List.mem_of_mem_take h)).2)
    exact iff_of_true hnot fun h => absurd h hzero

end Sys2Proof.Machine
end

section
/-! SETTLED. ROUND_END in SYNCED starts the next round (O49). -/

namespace Sys2Proof.Machine

/-! ### The fire list and the notices of a round start, in either order -/

theorem swapSide_parts {c d : CycleUnit} (h : c.swapSide = d.swapSide) :
    c.pendingSwap = d.pendingSwap ∧ c.staged = d.staged ∧ c.runningBank = d.runningBank ∧
      c.generation = d.generation ∧ c.skip = d.skip := by
  have hpending := congrArg CycleUnit.pendingSwap h
  have hstaged := congrArg CycleUnit.staged h
  have hbank := congrArg CycleUnit.runningBank h
  have hgeneration := congrArg CycleUnit.generation h
  have hskip := congrArg CycleUnit.skip h
  exact ⟨hpending, hstaged, hbank, hgeneration, hskip⟩

theorem swapped_parts (c : CycleUnit) :
    c.swapped.runningBank = c.stagedBank ∧ c.swapped.staged = .empty ∧ c.swapped.skip = false ∧
      c.swapped.generation = c.generation + 1 ∧ c.swapped.pendingSwap = none := by
  cases hrun : c.running <;> simp [CycleUnit.swapped, CycleUnit.runningBank, CycleUnit.stagedBank, hrun]

/-- A trusted round start fills the fire list from the bank that runs then (R127). -/
theorem cycleRoundStart_fireList {s : State} (h : trusted s.timebase.sync = true) :
    (cycleRoundStart s).cycle.fireList = fireListOf (cycleRoundStart s) := by
  have hround : fireListOf (cycleRoundStart s) = fireListOf (takeSwap (takeDueCyclic s)) := by
    simp only [fireListOf, CycleUnit.runningBank, cycleRoundStart_cycle, cycleRoundStart_frame, takeSwap_frame,
      takeDueCyclic_frame]
  rw [hround, cycleRoundStart_cycle, if_pos h]

theorem holdRoundStart_fireList (s : State) : (holdRoundStart s).cycle.fireList = s.cycle.fireList := by
  cases h : s.hold.releasePending with
  | false => rw [holdRoundStart_none h]
  | true =>
    obtain ⟨-, -, hcycle⟩ := holdRoundStart_release h
    rw [hcycle]

theorem takeSwap_notice {s : State} (h : s.cycle.pendingSwap = some s.timebase.round) :
    (takeSwap s).notice.pending.getLsbD (if s.cycle.staged = .ready then 12 else 13) = true := by
  rw [takeSwap, if_pos h]
  split <;> rename_i hstaged <;> simp [hstaged, raise, Cause.mask, Cause.bit]

/-- The swap that a round start executes or skips is noticed (R136, R137). -/
theorem cycleRoundStart_swapNotice {s : State} (h : s.cycle.pendingSwap = some s.timebase.round) :
    (cycleRoundStart s).notice.pending.getLsbD (if s.cycle.staged = .ready then 12 else 13) = true := by
  obtain ⟨hpending, hstaged, -, -, -⟩ := swapSide_parts (takeDueCyclic_swapSide s)
  have hnotice : (cycleRoundStart s).notice = (takeSwap (takeDueCyclic s)).notice := by
    simp only [cycleRoundStart]
    split <;> rfl
  rw [hnotice, ← hstaged]
  exact takeSwap_notice (by simp [hpending, h])

theorem outputsRoundStart_swapNotice (order : ReleaseOrder) {s : State}
    (h : s.cycle.pendingSwap = some s.timebase.round) :
    (outputsRoundStart order s).notice.pending.getLsbD (if s.cycle.staged = .ready then 12 else 13) = true := by
  cases order with
  | releaseFirst =>
    obtain ⟨hpending, hstaged, -, -, -⟩ := swapSide_parts (holdRoundStart_swapSide s)
    rw [← hstaged]
    exact cycleRoundStart_swapNotice (by simp [hpending, h])
  | roundStartFirst n =>
    have hgrows : (cycleRoundStart s).pendingGrows (outputsRoundStart (.roundStartFirst n) s) :=
      State.pendingGrows.trans (pendingGrows_of_eq (by simp)) (holdRoundStart_pendingGrows _)
    exact hgrows _ (cycleRoundStart_swapNotice h)

/-- The fire list of the new round where the release comes first (R127). -/
theorem outputsRoundStart_fireList_releaseFirst {s : State} (h : trusted s.timebase.sync = true) (d : CyclicDue) :
    d ∈ (outputsRoundStart .releaseFirst s).cycle.fireList ↔ d ∈ fireListOf (outputsRoundStart .releaseFirst s) :=
  iff_of_eq (congrArg (d ∈ ·) (cycleRoundStart_fireList (by simpa using h)))

/-- The fire list of the new round where the round start comes first and some offset-0 fires precede the release (R127,
R157). -/
theorem outputsRoundStart_fireList_roundStartFirst {s : State} (h : trusted s.timebase.sync = true)
    (hdue : reached s.timebase.nt s.timebase.rs = true) (n : Nat) (d : CyclicDue) :
    let t := outputsRoundStart (.roundStartFirst n) s
    d ∈ t.cycle.fireList ↔ d ∈ fireListOf t ∧
      (d.entry.offset = 0 →
        n ≤ ((List.range d.index).filter fun i => ((t.cycle.runningBank[i]?).join).any fun e =>
          e.offset == 0 && t.timebase.round.toNat % 2 ^ e.exp == e.phase).length) := by
  intro t
  have hside : t.cycle.swapSide = (cycleRoundStart s).cycle.swapSide :=
    (holdRoundStart_swapSide _).trans (takeOffsetZero_swapSide n _)
  obtain ⟨-, -, hbank, -, -⟩ := swapSide_parts hside
  have htime : t.timebase = (cycleRoundStart s).timebase := by simp [t]
  have hlist : fireListOf t = fireListOf (cycleRoundStart s) := by simp only [fireListOf, hbank, htime]
  have hfires : t.cycle.fireList = (takeOffsetZero n (cycleRoundStart s)).cycle.fireList := holdRoundStart_fireList _
  rw [hfires, hlist, hbank, htime]
  exact takeOffsetZero_fireList (cycleRoundStart_fireList h) (by simpa using hdue) n d

/-! ### The release of a round start, in either order -/

/-- The round start of the cycle unit finds and leaves it held or not. -/
theorem cycleRoundStart_held (s : State) : (cycleRoundStart s).cycle.held = s.cycle.held := by
  have hfire (u : State) (d : CyclicDue) : (fireCyclic d u).cycle.held = u.cycle.held := by
    simp only [fireCyclic]
    split
    · rfl
    · split <;> simp [cycleUpdate]
  have hdue : (takeDueCyclic s).cycle.held = s.cycle.held := by
    refine foldl_keeps (fun u => u.cycle.held) (fun u _ => ?_) _ s
    simp only [takeCyclicFire]
    split
    · rfl
    · exact hfire _ _
  have hround (round : Word16) (c : CycleUnit) : (c.atRound round).held = c.held := by
    unfold CycleUnit.atRound CycleUnit.swapped
    split
    · split
      · split <;> rfl
      · rfl
    · rfl
  rw [cycleRoundStart_cycle, takeSwap_cycle]
  exact (hround _ _).trans hdue

theorem outputsRoundStart_unreleased (order : ReleaseOrder) {s : State} (h : s.hold.releasePending = false) :
    (outputsRoundStart order s).hold = s.hold ∧ (outputsRoundStart order s).action = s.action := by
  cases order with
  | releaseFirst => simp [outputsRoundStart, holdRoundStart_none h]
  | roundStartFirst n =>
    have h' : (takeOffsetZero n (cycleRoundStart s)).hold.releasePending = false := by simpa using h
    simp [outputsRoundStart, holdRoundStart_none h']

theorem outputsRoundStart_released (order : ReleaseOrder) {s : State} (h : s.hold.releasePending = true) :
    (outputsRoundStart order s).hold = { s.hold with held := false, releasePending := false } ∧
      (outputsRoundStart order s).action.held = false ∧ (outputsRoundStart order s).cycle.held = false := by
  cases order with
  | releaseFirst =>
    obtain ⟨hhold, haction, hcycle⟩ := holdRoundStart_release h
    simp [outputsRoundStart, cycleRoundStart_held, hhold, haction, hcycle]
  | roundStartFirst n =>
    have h' : (takeOffsetZero n (cycleRoundStart s)).hold.releasePending = true := by simpa using h
    obtain ⟨hhold, haction, hcycle⟩ := holdRoundStart_release h'
    simp [outputsRoundStart, hhold, haction, hcycle]

/-! ### ROUND_END in SYNCED -/

/-- The state of SYNCED as its round has been recorded and counted and no cause ends the state (R6, R10, R27). -/
def State.roundKept (s : State) : State :=
  { s with timebase :=
    { s.timebase with
      corr := roundCorrection s.timebase, corrCount := 1 + roundRefs s.timebase, corrApplied := false
      refs := roundRefs s.timebase, refsNaming := roundNaming s.timebase, thin := 0, unheard := 0 } }

/-- SYNCED is kept by enough reference frames of which one names the own station, with a correction within the limit
(R27). -/
theorem roundTransition_synced_kept {s : State} (order : RoundOrder) {c : Int} {refs naming : Nat}
    (hsync : s.timebase.sync = .synced) (hrefs : s.profile.minRefs ≤ refs) (hnaming : naming ≠ 0)
    (hlimit : c.natAbs ≤ s.profile.corrLimit) :
    roundTransition order c refs naming s = timeUpdate (fun t => { t with thin := 0, unheard := 0 }) s := by
  have hcount : countRound s.profile refs naming = fun t => { t with thin := 0, unheard := 0 } := by
    funext t
    simp [countRound, Nat.not_lt.2 hrefs, hnaming]
  rw [roundTransition_synced order hsync, hcount]
  simp [hlimit, timeUpdate]

theorem takeRoundEnd_synced {s : State} (order : RoundOrder) (hsync : s.timebase.sync = .synced)
    (hdue : reached s.timebase.nt (s.timebase.rs + BitVec.ofNat 48 s.profile.period) = true)
    (hrefs : s.profile.minRefs ≤ roundRefs s.timebase) (hnaming : roundNaming s.timebase ≠ 0)
    (hlimit : (roundCorrection s.timebase).natAbs ≤ s.profile.corrLimit) :
    takeRoundEnd order s =
      startRound order .synced (roundCorrection s.timebase) (roundRefs s.timebase) s.roundKept := by
  have hkept : roundTransition order (roundCorrection s.timebase) (roundRefs s.timebase) (roundNaming s.timebase)
      (timeUpdate recordRound s) = s.roundKept := roundTransition_synced_kept order hsync hrefs hnaming hlimit
  have hruns : roundsRun s.timebase.sync = true := by rw [hsync]; rfl
  rw [takeRoundEnd_due order ((roundEndDue_iff s).2 ⟨hruns, hdue⟩), hkept, hsync]
  exact if_pos hruns

/-- The outputs take the round start last; until then they stand as they were, and the timebase as it ends. -/
theorem startRound_outputs (order : RoundOrder) (y : Sync) (c : Int) (refs : Nat) (s : State) :
    ∃ w, startRound order y c refs s = outputsRoundStart order.release w ∧ w.profile = s.profile ∧
      w.timebase = (startRound order y c refs s).timebase ∧ w.channels = s.channels ∧ w.cycle = s.cycle ∧
      w.hold = s.hold ∧ w.action = s.action := by
  refine ⟨_, startRound_eq order y c refs s, ?_⟩
  rw [startRound_timebase]
  simp

/-- A correction that is applied is the slew, zero or not (R12). -/
theorem withSlew_slew (p : Profile) (c : Int) (t : Timebase) :
    t.withSlew p true c =
      { t with
        slew := c, spacing := (t.withSlew p true c).spacing, slewLeft := (t.withSlew p true c).spacing } := by
  by_cases hc : c = 0
  · rw [withSlew_none (Or.inr hc), hc]
  · rw [withSlew_applied hc]

/-- Settles O49: ROUND_END keeps SYNCED, and the round that starts is told by its parts. -/
theorem roundEndStartsRound : Obligations.RoundEndStartsRound := by
  intro s order hsync hdue devs c hmin hrefs hnamed hlimit
  have hnaming : roundNaming s.timebase ≠ 0 := by
    obtain ⟨d, hd, hdn⟩ := hnamed
    exact Nat.ne_of_gt (List.length_pos_of_mem (List.mem_filter.2 ⟨hd, hdn⟩))
  have happlies : applies s.profile .synced c devs.length = true :=
    (applies_iff _ _ _ _).2 ⟨hlimit, Nat.le_trans hmin hrefs⟩
  obtain ⟨w, hw, hprofile, htimeW, hchannels, hcycle, hhold, haction⟩ :=
    startRound_outputs order .synced c devs.length s.roundKept
  have htime := (startRound_timebase order .synced c devs.length s.roundKept).trans
    (nextRound_timebase .synced c devs.length s.roundKept)
  have hctl := startRound_roundCtl order .synced c devs.length s.roundKept
  have hexec : exec (.roundEnd order) s = .next (startRound order .synced c devs.length s.roundKept) :=
    congrArg Host.Outcome.next (takeRoundEnd_synced order hsync hdue hrefs hnaming hlimit)
  have hframe := startRound_frame order .synced c devs.length s.roundKept
  generalize startRound order .synced c devs.length s.roundKept = t at hexec hw htimeW htime hctl hframe
  rw [show applies s.roundKept.profile .synced c devs.length = true from happlies] at htime
  have hrs : t.timebase.rs = s.timebase.rs + BitVec.ofNat 48 s.profile.period := by rw [htime, withSlew_slew]; rfl
  have hnt : t.timebase.nt = s.timebase.nt := by rw [htime, withSlew_slew]; rfl
  have htrusted : trusted w.timebase.sync = true := by rw [htimeW, htime, withSlew_slew]; exact congrArg trusted hsync
  have hside : t.cycle.swapSide = (s.cycle.atRound t.timebase.round).swapSide := by
    rw [hw, outputsRoundStart_swapSide, hcycle, htimeW, ← hw, ← atRound_swapSide]
    rfl
  have hnotice (hswap : s.cycle.pendingSwap = some t.timebase.round) :
      t.notice.pending.getLsbD (if s.cycle.staged = .ready then 12 else 13) = true := by
    have hn := outputsRoundStart_swapNotice order.release
      (show w.cycle.pendingSwap = some w.timebase.round by rw [hcycle, htimeW]; exact hswap)
    rw [← hw, hcycle] at hn
    exact hn
  refine ⟨t, hexec, ?time, ?zero, ?spacing, ?heardPrev, ?heardNow, ?sendTaken, ?queue, ?inFlight, ?receiver, ?stays, ?leaves,
    ?executed, ?skipped, ?notDue, ?fires, ?outputs, ?profile, ?port, ?pins⟩
  case time => rw [htime, withSlew_slew]; rfl
  case zero => intro hc; rw [htime, withSlew_none (Or.inr hc)]
  case spacing => intro hc; rw [htime, withSlew_applied hc]; rfl
  case heardPrev => rw [hctl]; rfl
  case heardNow => rw [hctl]
  case sendTaken => rw [hctl]
  case queue => rw [hctl]; rfl
  case inFlight => rw [hctl]; rfl
  case receiver => rw [hctl]; rfl
  case stays =>
    intro h
    have hw' := outputsRoundStart_unreleased order.release (show w.hold.releasePending = false by rw [hhold]; exact h)
    rw [← hw, hhold, haction] at hw'
    exact hw'
  case leaves =>
    intro h
    have hw' := outputsRoundStart_released order.release (show w.hold.releasePending = true by rw [hhold]; exact h)
    rw [← hw, hhold] at hw'
    exact hw'
  case executed =>
    intro hswap hready
    obtain ⟨hpending, hstaged, hbank, hgeneration, hskip⟩ := swapSide_parts hside
    rw [show s.cycle.atRound t.timebase.round = s.cycle.swapped from (if_pos hswap).trans (if_pos hready)]
      at hpending hstaged hbank hgeneration hskip
    obtain ⟨hbank', hstaged', hskip', hgeneration', hpending'⟩ := swapped_parts s.cycle
    have hn := hnotice hswap
    rw [if_pos hready] at hn
    exact ⟨hbank.trans hbank', hstaged.trans hstaged', hskip.trans hskip', hgeneration.trans hgeneration',
      hpending.trans hpending', hn⟩
  case skipped =>
    intro hswap hready
    obtain ⟨hpending, hstaged, hbank, hgeneration, hskip⟩ := swapSide_parts hside
    rw [show s.cycle.atRound t.timebase.round = _ from (if_pos hswap).trans (if_neg hready)]
      at hpending hstaged hbank hgeneration hskip
    have hn := hnotice hswap
    rw [if_neg hready] at hn
    exact ⟨hbank, hstaged, hskip, hgeneration, hpending, hn⟩
  case notDue =>
    intro hswap
    obtain ⟨hpending, hstaged, hbank, hgeneration, hskip⟩ := swapSide_parts hside
    rw [show s.cycle.atRound t.timebase.round = _ from if_neg hswap] at hpending hstaged hbank hgeneration hskip
    exact ⟨hbank, hstaged, hskip, hgeneration, hpending⟩
  case fires =>
    intro selected
    have hselected (d : CyclicDue) : d ∈ fireListOf t ↔ selected d := mem_fireListOf
    refine ⟨fun horder d => ?_, fun n horder d => ?_⟩
    · rw [← hselected, hw, horder]
      exact outputsRoundStart_fireList_releaseFirst htrusted d
    · have hdueW : reached w.timebase.nt w.timebase.rs = true := by rw [htimeW, hnt, hrs]; exact hdue
      rw [← hselected, hw, horder]
      exact outputsRoundStart_fireList_roundStartFirst htrusted hdueW n d
  case outputs =>
    intro x
    have hsame : w.sameOutputs x := ⟨hprofile, htimeW, hchannels, hcycle, hhold⟩
    obtain ⟨-, -, hchannelsT, hcycleT, -⟩ := sameOutputs_outputsRoundStart hsame order.release
    rw [← hw] at hchannelsT hcycleT
    exact ⟨fun horder => by rw [horder] at hchannelsT hcycleT; exact ⟨hchannelsT, hcycleT⟩,
      fun n horder => by rw [horder] at hchannelsT hcycleT; exact ⟨hchannelsT, hcycleT⟩⟩
  case profile =>
    obtain ⟨-, -, hprofileT, -⟩ := hframe
    exact hprofileT
  case port =>
    obtain ⟨-, -, -, hport, -⟩ := hframe
    exact hport
  case pins =>
    obtain ⟨hpins, -⟩ := hframe
    exact hpins

end Sys2Proof.Machine
end

section
/-! SUPPORT. The events that are due in a step, and what keeps a step from having more of them (R4; assumption 3). -/

namespace Sys2Proof.Machine

/-! ### What is due -/

/-- An event that can be due in a step, by its kind and what it is of. -/
inductive Due where
  | answer
  | edge (channel : Nat)
  | line
  | frame
  | pulse (index : Nat)
  | cyclicEnd (e : CyclicEnd)
  | listen
  | round
  | expiry (index : Nat)
  | fire (index : Nat)
  | cyclicFire (d : CyclicDue)
  | send
  | cut
  | capture

/-- What the events due in a step are read from. -/
structure DueView where
  inReset     : Bool
  profile     : Profile
  nt          : NT
  stepNo      : Nat
  sync        : Sync
  rs          : NT
  listenTimer : Option NT
  transaction : Transaction
  edges       : Nat → Bool
  lineDue     : Bool
  frameEnd    : Option Nat
  sendTaken   : Bool
  receiver    : Receiver
  timeDue     : Bool
  entries     : Nat → Option Entry
  fireList    : List CyclicDue
  pulseEnds   : List CyclicEnd

/-- The view of a state. -/
def State.dueView (s : State) : DueView where
  inReset := s.inReset
  profile := s.profile
  nt := s.timebase.nt
  stepNo := s.timebase.stepNo
  sync := s.timebase.sync
  rs := s.timebase.rs
  listenTimer := s.timebase.listenTimer
  transaction := s.port.transaction
  edges c := (s.channels[c]?).any fun ch => ch.filter.edgeDue
  lineDue := s.hold.lineDue
  frameEnd := s.roundCtl.inFlight.map fun f => f.begun + framePeriods s.profile f.octets.length
  sendTaken := s.roundCtl.sendTaken
  receiver := s.roundCtl.receiver
  timeDue := s.port.timeDue
  entries i := (s.action.entries[i]?).join
  fireList := s.cycle.fireList
  pulseEnds := s.cycle.pulseEnds

/-- The pulse end of an ACTIVE PULSE entry is due (R103). -/
def Entry.pulseDue (now : NT) (stepNo : Nat) (e : Entry) : Prop :=
  (∃ l w, e.effect = .pulse l w) ∧
    ∃ ends since c, e.state = .active ends since c ∧ since < stepNo ∧ reached now ends = true

/-- The expiry of a WAITING entry is due (R105). -/
def Entry.expiryDue (now : NT) (stepNo : Nat) (e : Entry) : Prop :=
  ∃ since x, e.state = .waiting since ∧ e.expiry = some x ∧ since < stepNo ∧ reached now x = true

/-- The fire of a SCHEDULED entry is due (R101). -/
def Entry.fireDue (now : NT) (e : Entry) : Prop := ∃ d, e.state = .scheduled d ∧ reached now d = true

/-- The event is due (R4). -/
def DueView.isDue (v : DueView) : Due → Prop
  | .answer => ∃ at' left, v.transaction = .answer at' false left ∧ at' ≤ v.stepNo
  | .edge c => v.edges c = true ∧ ∃ cfg, v.profile.channels[c]?.getD .unused = .capture cfg
  | .line => v.lineDue = true
  | .frame => ∃ n, v.frameEnd = some n ∧ n ≤ v.stepNo
  | .pulse i => ∃ e, v.entries i = some e ∧ e.pulseDue v.nt v.stepNo
  | .cyclicEnd e => e ∈ v.pulseEnds ∧ e.since < v.stepNo ∧ reached v.nt e.instant = true
  | .listen => v.sync = .listen ∧ ∃ x, v.listenTimer = some x ∧ reached v.nt x = true
  | .round => roundsRun v.sync = true ∧ reached v.nt (ntAdd v.rs v.profile.period) = true
  | .expiry i => ∃ e, v.entries i = some e ∧ e.expiryDue v.nt v.stepNo
  | .fire i => ∃ e, v.entries i = some e ∧ e.fireDue v.nt
  | .cyclicFire d => d ∈ v.fireList ∧ reached v.nt d.instant = true
  | .send => roundsRun v.sync = true ∧ v.sendTaken = false ∧
      reached v.nt (ntAdd v.rs (v.profile.station * v.profile.slotLen + v.profile.sendOffset)) = true
  | .cut => ∃ r, v.receiver = .cutShort r
  | .capture => v.timeDue = true

/-- The event is due in the state. -/
def State.isDue (s : State) (k : Due) : Prop := s.dueView.isDue k

theorem isDue_pulse {s : State} {i : Nat} : s.isDue (.pulse i) ↔
    ∃ e, entryAt s i = some e ∧ e.pulseDue s.timebase.nt s.timebase.stepNo := Iff.rfl

theorem isDue_expiry {s : State} {i : Nat} : s.isDue (.expiry i) ↔
    ∃ e, entryAt s i = some e ∧ e.expiryDue s.timebase.nt s.timebase.stepNo := Iff.rfl

theorem isDue_cut {s : State} : s.isDue .cut ↔ ∃ r, s.roundCtl.receiver = .cutShort r := Iff.rfl

theorem isDue_round {s : State} : s.isDue .round ↔ roundEndDue s = true := (roundEndDue_iff s).symm

/-- The profile has P, the station number and the bit period in their ranges, as far as the taking of a step needs it. -/
def Profile.inRanges (p : Profile) : Prop :=
  0 < p.period ∧ p.period ≤ 50000000 ∧ p.station < 256 ∧ 0 < p.bitPeriods

/-- The state is in OFF, or its profile is in its ranges. -/
def State.offOrInRanges (s : State) : Prop := s.timebase.sync = .off ∨ s.profile.inRanges

/-! ### What keeps quiet what is quiet -/

/-- From s to t, within one step, no event of the kinds K becomes due that was not. -/
structure Calms (K : Due → Prop) (s t : State) : Prop where
  profile : t.profile = s.profile
  nt : t.timebase.nt = s.timebase.nt
  stepNo : t.timebase.stepNo = s.timebase.stepNo
  inReset : t.inReset = s.inReset
  off : s.timebase.sync = .off → t.timebase.sync = .off
  due : ∀ k, K k → t.isDue k → s.isDue k

/-- Every kind of event. -/
def Due.any (_ : Due) : Prop := True

/-- The kinds that no event of a step brings about again: not the fires and the own send instant, which a round start, a
repeat or an expired listen timer can, nor the reception that the own send instant cuts short. -/
def Due.lasting : Due → Prop
  | .answer => True
  | .edge _ => True
  | .line => True
  | .frame => True
  | .pulse _ => True
  | .cyclicEnd _ => True
  | .listen => True
  | .round => True
  | .expiry _ => True
  | .fire _ => False
  | .cyclicFire _ => False
  | .send => False
  | .cut => False
  | .capture => True

variable {K : Due → Prop} {s t u : State}

theorem Calms.refl (s : State) : Calms K s s := ⟨rfl, rfl, rfl, rfl, id, fun _ _ => id⟩

theorem Calms.trans (h : Calms K s t) (h' : Calms K t u) : Calms K s u :=
  ⟨h'.profile.trans h.profile, h'.nt.trans h.nt, h'.stepNo.trans h.stepNo, h'.inReset.trans h.inReset, fun hs => h'.off (h.off hs),
    fun k hk hu => h.due k hk (h'.due k hk hu)⟩

theorem Calms.mono {L : Due → Prop} (h : Calms K s t) (hL : ∀ k, L k → K k) : Calms L s t :=
  ⟨h.profile, h.nt, h.stepNo, h.inReset, h.off, fun k hk => h.due k (hL k hk)⟩

/-- Calm for every kind, calm for these. -/
theorem Calms.of_any (h : Calms Due.any s t) : Calms K s t := h.mono fun _ _ => trivial

theorem Calms.offOrInRanges (h : Calms K s t) (hs : s.offOrInRanges) : t.offOrInRanges :=
  hs.imp h.off fun hp => by rwa [h.profile]

/-- Nothing due changes with the view. -/
theorem calms_of_view (h : t.dueView = s.dueView) : Calms K s t := by
  have hsync : t.timebase.sync = s.timebase.sync := congrArg DueView.sync h
  exact ⟨congrArg DueView.profile h, congrArg DueView.nt h, congrArg DueView.stepNo h, congrArg DueView.inReset h,
    fun hs => hsync.trans hs,
    fun k _ hk => by rwa [State.isDue, h] at hk⟩

theorem calms_foldl {α : Type} {f : State → α → State} (h : ∀ s x, Calms K s (f s x)) (l : List α) (s : State) :
    Calms K s (l.foldl f s) :=
  foldl_inv (fun _ _ hu => hu.trans (h _ _)) l s (Calms.refl s)

theorem calms_iterate {f : State → State} (h : ∀ s, Calms K s (f s)) (n : Nat) (s : State) : Calms K s (f^[n] s) := by
  induction n generalizing s with
  | zero => exact Calms.refl s
  | succ n ih => exact (h s).trans (ih (f s))

/-- A fold whose step at a place ends what is due there, and brings about nothing due elsewhere, leaves nothing due at the
places of its list. -/
theorem foldl_ends {D : State → Nat → Prop} {f : State → Nat → State} (hends : ∀ s i, ¬ D (f s i) i)
    (hkeeps : ∀ s i j, D (f s i) j → D s j) (l : List Nat) (s : State) {i : Nat} (hi : i ∈ l) : ¬ D (l.foldl f s) i := by
  have hlater : ∀ (l : List Nat) (s : State), ¬ D s i → ¬ D (l.foldl f s) i := fun l s h =>
    foldl_inv (P := fun s => ¬ D s i) (fun s x hs hd => hs (hkeeps s x i hd)) l s h
  induction l generalizing s with
  | nil => simp at hi
  | cons j l ih =>
    rcases List.mem_cons.1 hi with rfl | hi
    · exact hlater l _ (hends s i)
    · exact ih (f s j) hi

/-- An iteration whose step lowers a count until it is 0 brings it to 0 in as many steps. -/
theorem iterate_drains {f : State → State} (m : State → Nat) (h : ∀ s, m (f s) ≤ m s - 1) :
    ∀ (n : Nat) (s : State), m s ≤ n → m (f^[n] s) = 0
  | 0, s, hs => Nat.le_zero.1 hs
  | n + 1, s, hs => iterate_drains m h n (f s) (by have := h s; omega)

end Sys2Proof.Machine
end

section
/-! SUPPORT. What the operations of a step make due: blocks that the due events are not read from, the armed list, the
cycle unit and the hold unit. -/

namespace Sys2Proof.Machine

variable {K : Due → Prop} {s : State}

/-! ### Operations that no due event is read from -/

@[simp] theorem raise_dueView (c : Cause) (s : State) : (raise c s).dueView = s.dueView := by simp [State.dueView]

@[simp] theorem setQueue_dueView (q : List Item) (s : State) : (setQueue q s).dueView = s.dueView := rfl

@[simp] theorem journalReport_dueView (r : ReportRecord) (s : State) : (journalReport r s).dueView = s.dueView := by
  simp [State.dueView]

@[simp] theorem offerReport_dueView (r : ReportItem) (s : State) : (offerReport r s).dueView = s.dueView := by
  unfold offerReport
  split
  · rfl
  · exact (raise_dueView _ _).trans rfl

@[simp] theorem journalLocalMark_dueView (k : Option Nat) (m : Mark) (s : State) :
    (journalLocalMark k m s).dueView = s.dueView := by simp [State.dueView]

/-- A change of a channel that keeps its filter. -/
theorem channelUpdate_dueView (c : Nat) {f : Channel → Channel} (hf : ∀ ch, (f ch).filter = ch.filter) (s : State) :
    (channelUpdate c f s).dueView = s.dueView := by
  have hedges : (channelUpdate c f s).dueView.edges = s.dueView.edges := by
    funext j
    simp only [State.dueView, channelUpdate, tableUpdate_get]
    split
    · cases s.channels[j]? <;> simp [hf]
    · rfl
  exact congrArg (fun e => { s.dueView with edges := e }) hedges

@[simp] theorem offerMark_dueView (c : Nat) (m : Mark) (s : State) : (offerMark c m s).dueView = s.dueView := by
  unfold offerMark
  split
  · rfl
  · exact (raise_dueView _ _).trans (channelUpdate_dueView c (by intro _; rfl) s)

@[simp] theorem publishMark_dueView (g : CaptureCfg) (c : Nat) (m : Mark) (s : State) :
    (publishMark g c m s).dueView = s.dueView := by
  unfold publishMark
  split <;> simp

@[simp] theorem driveUpdate_dueView (c : Nat) (f : Drive → Drive) (s : State) : (driveUpdate c f s).dueView = s.dueView := by
  unfold driveUpdate
  split
  · rfl
  · exact channelUpdate_dueView c (by intro _; rfl) s

@[simp] theorem requestLevel_dueView (c : Nat) (r : LevelReq) (s : State) : (requestLevel c r s).dueView = s.dueView :=
  driveUpdate_dueView _ _ _

theorem calms_requestLevel (c : Nat) (r : LevelReq) (s : State) : Calms K s (requestLevel c r s) :=
  calms_of_view (requestLevel_dueView c r s)

@[simp] theorem forceAll_dueView (s : State) : (forceAll s).dueView = s.dueView :=
  foldl_keeps State.dueView (fun s c => driveUpdate_dueView c _ s) _ s

@[simp] theorem releaseAll_dueView (s : State) : (releaseAll s).dueView = s.dueView :=
  foldl_keeps State.dueView (fun s c => driveUpdate_dueView c _ s) _ s

@[simp] theorem requestFalls_dueView (y : Sync) (s : State) : (requestFalls y s).dueView = s.dueView := by
  simp [State.dueView]

@[simp] theorem peersAbsent_dueView (s : State) : (peersAbsent s).dueView = s.dueView := by
  simp [State.dueView, peersAbsent]

/-- The purge leaves a frame in flight as built (R57). -/
@[simp] theorem purgeQueue_dueView (s : State) : (purgeQueue s).dueView = s.dueView := by
  simp [State.dueView, purgeQueue, Function.comp_def]

@[simp] theorem requestsRoundStart_dueView (o : RoundOrder) (l : List Nat) (s : State) :
    (requestsRoundStart o l s).dueView = s.dueView := by simp [State.dueView]

@[simp] theorem foldl_reportSent_dueView (r : Word16) (l : List Item) (s : State) :
    (l.foldl (reportSent r) s).dueView = s.dueView := by simp [State.dueView]

/-! ### The armed list -/

/-- An entry is removed. -/
theorem calms_setEntry_none (i : Nat) (s : State) : Calms K s (setEntry i none s) := by
  refine ⟨rfl, rfl, rfl, rfl, id, fun k _ hk => ?_⟩
  have hentry {j : Nat} {e : Entry} (h : entryAt (setEntry i none s) j = some e) : entryAt s j = some e := by
    rw [entryAt_setEntry] at h
    split at h
    · cases h
    · exact h
  cases k with
  | pulse j => obtain ⟨e, he, hdue⟩ := hk; exact ⟨e, hentry he, hdue⟩
  | expiry j => obtain ⟨e, he, hdue⟩ := hk; exact ⟨e, hentry he, hdue⟩
  | fire j => obtain ⟨e, he, hdue⟩ := hk; exact ⟨e, hentry he, hdue⟩
  | _ => exact hk

/-- An entry is replaced by one whose pulse end and expiry are not due. -/
theorem calms_setEntry_some {i : Nat} {e : Entry} (s : State) (hp : ¬ e.pulseDue s.timebase.nt s.timebase.stepNo)
    (hx : ¬ e.expiryDue s.timebase.nt s.timebase.stepNo) : Calms Due.lasting s (setEntry i (some e) s) := by
  refine ⟨rfl, rfl, rfl, rfl, id, fun k hlasting hk => ?_⟩
  have hentry {j : Nat} {d : Entry} (h : entryAt (setEntry i (some e) s) j = some d) : entryAt s j = some d ∨ d = e := by
    rw [entryAt_setEntry] at h
    split at h
    · exact Or.inr (Option.some.inj h).symm
    · exact Or.inl h
  cases k with
  | pulse j =>
    obtain ⟨d, hd, hdue⟩ := hk
    rcases hentry hd with h | rfl
    · exact ⟨d, h, hdue⟩
    · exact absurd hdue hp
  | expiry j =>
    obtain ⟨d, hd, hdue⟩ := hk
    rcases hentry hd with h | rfl
    · exact ⟨d, h, hdue⟩
    · exact absurd hdue hx
  | fire j => exact absurd hlasting id
  | _ => exact hk

/-- A SCHEDULED entry awaits neither a pulse end nor an expiry. -/
theorem calms_setEntry_scheduled {i : Nat} {e : Entry} {d : NT} (h : e.state = .scheduled d) (s : State) :
    Calms Due.lasting s (setEntry i (some e) s) :=
  calms_setEntry_some s (by simp [Entry.pulseDue, h]) (by simp [Entry.expiryDue, h])

/-- An entry that became WAITING in this step has no expiry due in it (R105). -/
theorem calms_setEntry_waiting {i : Nat} {e : Entry} {s : State} (h : e.state = .waiting s.timebase.stepNo) :
    Calms Due.lasting s (setEntry i (some e) s) :=
  calms_setEntry_some s (by simp [Entry.pulseDue, h]) (by simp [Entry.expiryDue, h])

/-- An entry that fired in this step has no pulse end due in it (R103). -/
theorem calms_setEntry_active {i : Nat} {e : Entry} {s : State} {ends : NT} {n : Nat} {c : Bool}
    (h : e.state = .active ends n c) (hn : n = s.timebase.stepNo) : Calms Due.lasting s (setEntry i (some e) s) :=
  calms_setEntry_some s (by simp [Entry.pulseDue, h, hn]) (by simp [Entry.expiryDue, h])

/-- What is due once an entry has ended is what is due without it. -/
theorem endEntry_dueView (i : Nat) (code : Octet) (d : Option Word16) (s : State) :
    (endEntry i code d s).dueView = (setEntry i none s).dueView := by
  unfold endEntry
  split
  · next h =>
    have hentries : (setEntry i none s).dueView.entries = s.dueView.entries := by
      funext j
      refine (entryAt_setEntry s i j none).trans ?_
      split
      · next hj => rw [hj.1]; exact h.symm
      · rfl
    exact (congrArg (fun e => { s.dueView with entries := e }) hentries).symm
  · simp only
    split
    · exact journalReport_dueView _ _
    · exact offerReport_dueView _ _

/-- An entry ends. -/
theorem calms_endEntry (i : Nat) (code : Octet) (d : Option Word16) (s : State) : Calms K s (endEntry i code d s) :=
  (calms_setEntry_none i s).trans (calms_of_view (endEntry_dueView i code d s))

/-- An entry ends with its fields changed. -/
theorem calms_endEntry_setEntry (i : Nat) (code : Octet) (d : Option Word16) (e : Option Entry) (s : State) :
    Calms K s (endEntry i code d (setEntry i e s)) := by
  refine (calms_setEntry_none i s).trans (calms_of_view ?_)
  rw [endEntry_dueView, setEntry_setEntry_same]

/-- After its end there is no entry, and the others stand. -/
theorem entryAt_endEntry (i : Nat) (code : Octet) (d : Option Word16) (s : State) (j : Nat) :
    entryAt (endEntry i code d s) j = if j = i then none else entryAt s j := by
  have hview : entryAt (endEntry i code d s) j = entryAt (setEntry i none s) j :=
    congrFun (congrArg DueView.entries (endEntry_dueView i code d s)) j
  rw [hview, entryAt_setEntry]
  by_cases hj : j = i
  · subst hj
    by_cases hlt : j < 48
    · simp [hlt]
    · simp [hlt, entryAt]
  · simp [hj]

/-- A complete fire leaves the entry ended, SCHEDULED again or WAITING from this step, with one repeat less (R104). -/
theorem entryAt_completeFire (i : Nat) (e : Entry) (due : NT) (s : State) :
    (∀ j, j ≠ i → entryAt (completeFire i e due s) j = entryAt s j) ∧
      ∀ e', entryAt (completeFire i e due s) i = some e' →
        e'.remaining + 1 = e.remaining ∧ ((∃ d, e'.state = .scheduled d) ∨ e'.state = .waiting s.timebase.stepNo) := by
  unfold completeFire
  split
  · exact ⟨fun j hj => by simp [entryAt_endEntry, entryAt_setEntry, hj], fun e' h => by simp [entryAt_endEntry] at h⟩
  · next hr =>
    have hset {e'' : Entry} (hrem : e''.remaining + 1 = e.remaining)
        (hst : (∃ d, e''.state = .scheduled d) ∨ e''.state = .waiting s.timebase.stepNo) :
        (∀ j, j ≠ i → entryAt (setEntry i (some e'') s) j = entryAt s j) ∧
          ∀ e', entryAt (setEntry i (some e'') s) i = some e' →
            e'.remaining + 1 = e.remaining ∧ ((∃ d, e'.state = .scheduled d) ∨ e'.state = .waiting s.timebase.stepNo) := by
      refine ⟨fun j hj => by simp [entryAt_setEntry, hj], fun e' h => ?_⟩
      have hlt := lt_of_entryAt h
      obtain rfl : e'' = e' := by simpa [entryAt_setEntry, hlt] using h
      exact ⟨hrem, hst⟩
    simp only
    split
    · split
      · exact ⟨fun j hj => by simp [entryAt_endEntry, entryAt_setEntry, hj], fun e' h => by simp [entryAt_endEntry] at h⟩
      · exact hset (Nat.sub_add_cancel (Nat.pos_of_ne_zero hr)) (Or.inl ⟨_, rfl⟩)
    · exact hset (Nat.sub_add_cancel (Nat.pos_of_ne_zero hr)) (Or.inr rfl)

/-- A complete fire makes nothing lasting due (R104). -/
theorem calms_completeFire (i : Nat) (e : Entry) (due : NT) (s : State) : Calms Due.lasting s (completeFire i e due s) := by
  unfold completeFire
  split
  · exact calms_endEntry_setEntry _ _ _ _ _
  · simp only
    split
    · split
      · exact calms_endEntry_setEntry _ _ _ _ _
      · exact calms_setEntry_scheduled (by rfl) s
    · exact calms_setEntry_waiting (by rfl)

/-- PULSE_END makes nothing lasting due (R103). -/
theorem calms_takePulseEnd (i : Nat) (s : State) : Calms Due.lasting s (takePulseEnd i s) := by
  unfold takePulseEnd
  split
  · exact Calms.refl s
  · split
    · split
      · unfold endPulse
        split
        · exact Calms.refl s
        · exact Calms.refl s
        · simp only
          split
          · exact (calms_requestLevel _ _ s).trans (calms_endEntry _ _ _ _)
          · exact (calms_requestLevel _ _ s).trans (calms_completeFire _ _ _ _)
      · exact Calms.refl s
    · exact Calms.refl s
    · exact Calms.refl s

/-- After PULSE_END of an entry its pulse end is not due (R103). -/
theorem takePulseEnd_ends (i : Nat) (s : State) : ¬ (takePulseEnd i s).isDue (.pulse i) := by
  intro h
  obtain ⟨e, he, ⟨l, w, heff⟩, ends, since, c, hst, hsince, hreached⟩ :=
    isDue_pulse.1 ((calms_takePulseEnd i s).due (.pulse i) trivial h)
  obtain ⟨e', he', -, ends', since', c', hst', -⟩ := isDue_pulse.1 h
  rw [takePulseEnd_due he heff hst hsince hreached] at he'
  simp only at he'
  split at he'
  · simp [entryAt_endEntry] at he'
  · obtain ⟨-, hquiet⟩ := entryAt_completeFire i e (ends - w.setWidth 48) (requestLevel e.channel
      { kind := .armedEnd, due := ends, key := e.armSeq.toNat, index := i, level := some (oppositeLevel l) } s)
    obtain ⟨-, hst⟩ := hquiet e' he'
    simp [hst'] at hst

/-- EXPIRY makes nothing due (R105). -/
theorem calms_takeExpiry (i : Nat) (s : State) : Calms K s (takeExpiry i s) := by
  unfold takeExpiry
  split
  · exact Calms.refl s
  · split
    · split
      · exact calms_endEntry _ _ _ _
      · exact Calms.refl s
    · exact Calms.refl s
    · exact Calms.refl s
    · exact Calms.refl s

/-- After EXPIRY of an entry its expiry is not due (R105). -/
theorem takeExpiry_ends (i : Nat) (s : State) : ¬ (takeExpiry i s).isDue (.expiry i) := by
  intro h
  obtain ⟨e, he, since, x, hst, hx, hsince, hreached⟩ :=
    isDue_expiry.1 ((calms_takeExpiry (K := Due.any) i s).due (.expiry i) trivial h)
  obtain ⟨e', he', -⟩ := isDue_expiry.1 h
  rw [takeExpiry_due he hst hx hsince hreached] at he'
  simp [entryAt_endEntry] at he'

/-! ### Fires (R101) -/

/-- An armed fire makes nothing lasting due (R102). -/
theorem calms_fireEntry (i : Nat) (e : Entry) (due : NT) (s : State) : Calms Due.lasting s (fireEntry i e due s) := by
  unfold fireEntry
  split
  · exact calms_endEntry _ _ _ _
  · simp only
    split
    · exact Calms.trans (calms_requestLevel _ _ s) (calms_completeFire _ _ _ _)
    · exact Calms.trans (calms_requestLevel _ _ s) (calms_completeFire _ _ _ _)
    · exact Calms.trans (calms_requestLevel _ _ s) (calms_setEntry_active (by rfl) (by simp))

theorem calms_takeFire (s : State) : Calms Due.lasting s (takeFire s) := by
  unfold takeFire
  split
  · exact Calms.refl s
  · exact calms_fireEntry _ _ _ s

/-- The fires that a place of the armed list can still make in one step (R101, R104). -/
def firesOfEntry (e : Option Entry) : Nat :=
  match e with
  | none => 0
  | some e =>
    match e.state with
    | .scheduled _ => e.remaining + 1
    | .waiting _ => 0
    | .active _ _ _ => 0

theorem firesLeft_eq (s : State) : firesLeft s = ((List.range 48).map fun i => firesOfEntry (entryAt s i)).sum := rfl

/-- A fire takes one of the fires that its entry can still make, and none of another (R101, R104). -/
theorem fireEntry_firesOfEntry {i : Nat} {e : Entry} {due : NT} {s : State} (he : entryAt s i = some e)
    (hst : e.state = .scheduled due) :
    firesOfEntry (entryAt (fireEntry i e due s) i) < firesOfEntry (entryAt s i) ∧
      ∀ j, j ≠ i → entryAt (fireEntry i e due s) j = entryAt s j := by
  have hlt := lt_of_entryAt he
  have hbefore : firesOfEntry (entryAt s i) = e.remaining + 1 := by simp [he, firesOfEntry, hst]
  have hview (j : Nat) (c : Nat) (r : LevelReq) : entryAt (requestLevel c r s) j = entryAt s j := entryAt_congr (by simp) j
  have hcomplete (e' : Entry) (hrem : e'.remaining = e.remaining) (c : Nat) (r : LevelReq) :
      firesOfEntry (entryAt (completeFire i e' due (requestLevel c r s)) i) < firesOfEntry (entryAt s i) ∧
        ∀ j, j ≠ i → entryAt (completeFire i e' due (requestLevel c r s)) j = entryAt s j := by
    obtain ⟨hothers, hself⟩ := entryAt_completeFire i e' due (requestLevel c r s)
    refine ⟨?_, fun j hj => (hothers j hj).trans (hview j c r)⟩
    rw [hbefore]
    cases hafter : entryAt (completeFire i e' due (requestLevel c r s)) i with
    | none => simp [firesOfEntry]
    | some e'' =>
      obtain ⟨hrem', hst'⟩ := hself e'' hafter
      rcases hst' with ⟨d, hd⟩ | hd <;> simp only [firesOfEntry, hd] <;> omega
  unfold fireEntry
  split
  · refine ⟨?_, fun j hj => by simp [entryAt_endEntry, hj]⟩
    rw [hbefore]
    simp [entryAt_endEntry, firesOfEntry]
  · have hfired := hcomplete { e with fireCount := e.fireCount + 1, lastFire := some s.timebase.nt } rfl e.channel
      { kind := .armedStart, due := due, key := e.armSeq.toNat, index := i, level := e.effect.startLevel }
    simp only
    split
    · exact hfired
    · exact hfired
    · refine ⟨?_, fun j hj => by rw [entryAt_setEntry, if_neg (fun h => hj h.1), hview]⟩
      rw [hbefore, entryAt_setEntry, if_pos ⟨rfl, hlt⟩]
      simp [firesOfEntry]

/-- The entries whose fire is due are those of the fire queue (R101). -/
theorem mem_dueFires {s : State} {i : Nat} {e : Entry} {d : NT} :
    (i, e, d) ∈ dueFires s ↔ entryAt s i = some e ∧ e.state = .scheduled d ∧ reached s.timebase.nt d = true := by
  rw [dueFires, (sortOrdered_perm _ _).mem_iff, List.mem_filterMap]
  constructor
  · rintro ⟨j, -, hj⟩
    split at hj
    · cases hj
    · split at hj
      · next he _ d' hst =>
        split at hj
        · next hr => cases hj; exact ⟨he, hst, hr⟩
        · cases hj
      · cases hj
      · cases hj
  · rintro ⟨he, hst, hr⟩
    exact ⟨i, List.mem_range.2 (lt_of_entryAt he), by simp [he, hst, hr]⟩

/-- The fire queue is empty exactly where no fire is due. -/
theorem dueFires_eq_nil {s : State} : dueFires s = [] ↔ ∀ i, ¬ s.isDue (.fire i) := by
  constructor
  · rintro h i ⟨e, he, d, hst, hr⟩
    have hmem := mem_dueFires.2 ⟨he, hst, hr⟩
    rw [h] at hmem
    cases hmem
  · intro h
    refine List.eq_nil_iff_forall_not_mem.2 fun ⟨i, e, d⟩ hmem => ?_
    obtain ⟨he, hst, hr⟩ := mem_dueFires.1 hmem
    exact h i ⟨e, he, d, hst, hr⟩

/-- FIRE where none is due. -/
theorem takeFire_none {s : State} (h : dueFires s = []) : takeFire s = s := by simp [takeFire, h]

/-- FIRE takes one of the fires that can still be made (R101, R104). -/
theorem takeFire_firesLeft {s : State} (h : dueFires s ≠ []) : firesLeft (takeFire s) < firesLeft s := by
  obtain ⟨⟨i, e, d⟩, rest, hcons⟩ := List.exists_cons_of_ne_nil h
  obtain ⟨he, hst, -⟩ := mem_dueFires.1 (hcons ▸ List.mem_cons_self : (i, e, d) ∈ dueFires s)
  have htake : takeFire s = fireEntry i e d s := by simp [takeFire, hcons]
  obtain ⟨hself, hothers⟩ := fireEntry_firesOfEntry he hst
  rw [htake, firesLeft_eq, firesLeft_eq]
  refine List.sum_lt_sum _ _ (fun j _ => ?_) ⟨i, List.mem_range.2 (lt_of_entryAt he), hself⟩
  by_cases hj : j = i
  · rw [hj]; exact Nat.le_of_lt hself
  · rw [hothers j hj]

/-- The fires due are taken until none is, one after another. -/
theorem drainFires_eq (n : Nat) (s : State) : drainFires n s = takeFire^[n] s := by
  induction n generalizing s with
  | zero => rfl
  | succ n ih =>
    rw [drainFires, Function.iterate_succ_apply]
    split
    · next h =>
      have hnil := List.isEmpty_iff.1 h
      rw [takeFire_none hnil, Function.iterate_fixed (takeFire_none hnil)]
    · exact ih _

/-- Once the fires have been taken none is due (R101). -/
theorem drainFires_ends (s : State) (i : Nat) : ¬ (drainFires (firesLeft s) s).isDue (.fire i) := by
  have hcount (s : State) : (if dueFires (takeFire s) = [] then 0 else firesLeft (takeFire s)) ≤
      (if dueFires s = [] then 0 else firesLeft s) - 1 := by
    by_cases h : dueFires s = []
    · simp [takeFire_none h, h]
    · have hlt := takeFire_firesLeft h
      rw [if_neg h]
      split <;> omega
  have hzero := iterate_drains (fun s => if dueFires s = [] then 0 else firesLeft s) hcount (firesLeft s) s
    (by split <;> simp)
  rw [drainFires_eq]
  refine dueFires_eq_nil.1 ?_ i
  by_contra hne
  have hpos : firesLeft (takeFire^[firesLeft s] s) = 0 := by simpa [hne] using hzero
  have := takeFire_firesLeft hne
  omega

end Sys2Proof.Machine
end

section
/-! SUPPORT. What the edges, the hold unit and the cycle unit make due in a step. -/

namespace Sys2Proof.Machine

variable {K : Due → Prop}

/-! ### Edges (R64, R66) -/

/-- A mark makes nothing lasting due (R107). -/
theorem calms_matchEntry (m : Mark) (i : Nat) (s : State) : Calms Due.lasting s (matchEntry m i s) := by
  unfold matchEntry
  split
  · exact Calms.refl s
  · split
    · exact Calms.refl s
    · split
      · simp only
        split
        · exact calms_endEntry_setEntry _ _ _ _ s
        · split
          · exact calms_endEntry_setEntry _ _ _ _ s
          · split
            · exact calms_endEntry_setEntry _ _ _ _ s
            · exact calms_setEntry_scheduled (by rfl) s
      · exact Calms.refl s

theorem calms_matchMark (m : Mark) (s : State) : Calms Due.lasting s (matchMark m s) := by
  unfold matchMark
  split
  · exact Calms.refl s
  · exact calms_foldl (fun s i => calms_matchEntry m i s) _ s

theorem calms_deliverMark (g : CaptureCfg) (c : Nat) (b : Bool) (m : Mark) (s : State) :
    Calms Due.lasting s (deliverMark g c b m s) := by
  refine Calms.trans (calms_of_view (journalLocalMark_dueView g.ring m s)) ?_
  simp only [deliverMark]
  split
  · exact Calms.trans (calms_matchMark m _) (calms_of_view (publishMark_dueView g c m _))
  · exact Calms.trans (calms_of_view (publishMark_dueView g c m _)) (calms_matchMark m _)

/-- An accepted edge is due no more (R64). -/
theorem accept_edge (c : Nat) (s : State) :
    ¬ (channelUpdate c (fun ch => { ch with filter := ch.filter.accept }) s).isDue (.edge c) ∧
      Calms K s (channelUpdate c (fun ch => { ch with filter := ch.filter.accept }) s) := by
  have hedges (j : Nat) : (channelUpdate c (fun ch => { ch with filter := ch.filter.accept }) s).dueView.edges j =
      if j = c then false else s.dueView.edges j := by
    simp only [State.dueView, channelUpdate, tableUpdate_get]
    split
    · cases s.channels[j]? <;> rfl
    · rfl
  refine ⟨fun h => ?_, rfl, rfl, rfl, rfl, id, fun k _ hk => ?_⟩
  · obtain ⟨hdue, -⟩ := h
    simp [hedges] at hdue
  · cases k with
    | edge j =>
      obtain ⟨hdue, hcfg⟩ := hk
      rw [hedges] at hdue
      split at hdue
      · cases hdue
      · exact ⟨hdue, hcfg⟩
    | _ => exact hk

/-- An edge makes nothing lasting due once it has been accepted (R66, R67). -/
theorem calms_takeEdgeOf (c : Nat) (g : CaptureCfg) (b : Bool) (ch : Channel) (s : State) :
    Calms Due.lasting (channelUpdate c (fun ch => { ch with filter := ch.filter.accept }) s) (takeEdgeOf c g b ch s) := by
  simp only [takeEdgeOf]
  split
  · exact Calms.refl _
  · split
    · exact calms_of_view (channelUpdate_dueView c (by intro _; rfl) _)
    · exact Calms.trans (calms_of_view (channelUpdate_dueView c (by intro _; rfl) _)) (calms_deliverMark _ _ _ _ _)

theorem calms_takeEdge (c : Nat) (b : Bool) (s : State) : Calms Due.lasting s (takeEdge c b s) := by
  obtain ⟨-, haccept⟩ := accept_edge (K := Due.lasting) c s
  unfold takeEdge
  split
  · split
    · exact haccept.trans (calms_takeEdgeOf _ _ _ _ s)
    · exact Calms.refl s
  · exact Calms.refl s
  · exact Calms.refl s
  · exact Calms.refl s

/-- After EDGE_ACCEPTED the channel has no edge due (R64). -/
theorem takeEdge_ends (c : Nat) (b : Bool) (s : State) : ¬ (takeEdge c b s).isDue (.edge c) := by
  intro h
  obtain ⟨hedge, cfg, hcfg⟩ := (calms_takeEdge c b s).due (.edge c) trivial h
  obtain ⟨ch, hch, hdue⟩ := (Option.any_eq_true _ _).1 hedge
  have htake : takeEdge c b s = takeEdgeOf c cfg b ch s := by
    have hcfg : channelCfg s c = .capture cfg := hcfg
    simp [takeEdge, hcfg, hch, hdue]
  rw [htake] at h
  obtain ⟨hnone, -⟩ := accept_edge (K := Due.lasting) c s
  exact hnone ((calms_takeEdgeOf c cfg b ch s).due (.edge c) trivial h)

/-! ### The cycle unit -/

/-- A change of the cycle unit that adds pulse ends from this step only and fires none. -/
theorem calms_cycleUpdate {f : CycleUnit → CycleUnit} {s : State}
    (hends : ∀ e ∈ (f s.cycle).pulseEnds, e.since < s.timebase.stepNo → e ∈ s.cycle.pulseEnds)
    (hfires : ∀ d ∈ (f s.cycle).fireList, d ∈ s.cycle.fireList) : Calms K s (cycleUpdate f s) := by
  refine ⟨rfl, rfl, rfl, rfl, id, fun k _ hk => ?_⟩
  cases k with
  | cyclicEnd e =>
    obtain ⟨he, hsince, hr⟩ := hk
    exact ⟨hends e he hsince, hsince, hr⟩
  | cyclicFire d =>
    obtain ⟨hd, hr⟩ := hk
    exact ⟨hfires d hd, hr⟩
  | _ => exact hk

/-- A new fire list makes nothing lasting due (R127). -/
theorem calms_newFireList (l : List CyclicDue) (s : State) :
    Calms Due.lasting s (cycleUpdate (fun c => { c with fireList := l }) s) := by
  refine ⟨rfl, rfl, rfl, rfl, id, fun k hlasting hk => ?_⟩
  cases k with
  | cyclicFire d => exact absurd hlasting id
  | _ => exact hk

theorem calms_fireCyclic (d : CyclicDue) (s : State) : Calms K s (fireCyclic d s) := by
  have hlist : Calms K s (cycleUpdate (fun c => { c with fireList := c.fireList.filter fun x => x.index != d.index }) s) :=
    calms_cycleUpdate (fun e he _ => he) fun x hx => List.mem_of_mem_filter hx
  simp only [fireCyclic]
  split
  · exact hlist
  · split
    · exact hlist.trans (calms_requestLevel _ _ _)
    · exact hlist.trans (calms_requestLevel _ _ _)
    · have hfired := hlist.trans (calms_requestLevel d.entry.channel
        { kind := .cyclicStart, due := d.instant, key := d.index, index := d.index
          level := d.entry.effect.startLevel } _)
      refine hfired.trans (calms_cycleUpdate (fun e he hsince => ?_) fun x hx => hx)
      rcases List.mem_append.1 he with he | he
      · exact he
      · obtain rfl := List.mem_singleton.1 he
        simp at hsince

theorem calms_takeCyclicFire (s : State) : Calms K s (takeCyclicFire s) := by
  unfold takeCyclicFire
  split
  · exact Calms.refl s
  · exact calms_fireCyclic _ s

theorem calms_takeDueCyclic (s : State) : Calms K s (takeDueCyclic s) :=
  calms_foldl (fun s _ => calms_takeCyclicFire s) _ s

theorem calms_takeCyclicEnd (place : Nat) (s : State) : Calms K s (takeCyclicEnd place s) := by
  have herase : Calms K s (cycleUpdate (fun c => { c with pulseEnds := c.pulseEnds.eraseIdx place }) s) :=
    calms_cycleUpdate (fun e he _ => List.mem_of_mem_eraseIdx he) fun x hx => hx
  unfold takeCyclicEnd
  split
  · exact Calms.refl s
  · split
    · exact herase.trans (calms_requestLevel _ _ _)
    · exact Calms.refl s

@[simp] theorem takeSwap_dueView (s : State) : (takeSwap s).dueView = s.dueView := by
  have hlists (round : Word16) (c : CycleUnit) :
      (c.atRound round).fireList = c.fireList ∧ (c.atRound round).pulseEnds = c.pulseEnds := by
    unfold CycleUnit.atRound CycleUnit.swapped
    split
    · split
      · split <;> exact ⟨rfl, rfl⟩
      · exact ⟨rfl, rfl⟩
    · exact ⟨rfl, rfl⟩
  simp [State.dueView, takeSwap_cycle, hlists]

theorem calms_cycleRoundStart (s : State) : Calms Due.lasting s (cycleRoundStart s) := by
  have hswap : Calms Due.lasting s (takeSwap (takeDueCyclic s)) :=
    (calms_takeDueCyclic s).trans (calms_of_view (takeSwap_dueView _))
  simp only [cycleRoundStart]
  split <;> exact hswap.trans (calms_newFireList _ _)

/-- The fires of the fire list that are due (R128). -/
theorem mem_dueCyclic {s : State} {d : CyclicDue} : d ∈ dueCyclic s ↔ s.isDue (.cyclicFire d) := by
  rw [dueCyclic, (sortOrdered_perm _ _).mem_iff, List.mem_filter]
  exact Iff.rfl

theorem takeDueCyclic_eq (s : State) : takeDueCyclic s = takeCyclicFire^[(dueCyclic s).length] s :=
  List.foldl_const takeCyclicFire s (dueCyclic s)

/-- CYCLIC_FIRE leaves one due fire less (R128). -/
theorem takeCyclicFire_count (s : State) : (dueCyclic (takeCyclicFire s)).length ≤ (dueCyclic s).length - 1 := by
  unfold takeCyclicFire
  split
  · next h => simp [h]
  · next d rest h =>
    have hd : d ∈ s.cycle.fireList := (mem_dueCyclic.1 (h ▸ List.mem_cons_self)).1
    have hdue : reached s.timebase.nt d.instant = true := (mem_dueCyclic.1 (h ▸ List.mem_cons_self)).2
    have hlength (u : State) : (dueCyclic u).length = (u.cycle.fireList.filter fun x => reached u.timebase.nt x.instant).length :=
      (sortOrdered_perm _ _).length_eq
    have hlt : (dueCyclic (fireCyclic d s)).length < (dueCyclic s).length := by
      rw [hlength, hlength, fireCyclic_fireList, List.filter_comm]
      simp only [fireCyclic_frame]
      exact List.length_filter_lt_length_iff_exists.2 ⟨d, List.mem_filter.2 ⟨hd, hdue⟩, by simp⟩
    omega

/-- Once the fires of the fire list have been taken none is due (R127). -/
theorem takeDueCyclic_ends (s : State) (d : CyclicDue) : ¬ (takeDueCyclic s).isDue (.cyclicFire d) := by
  have hzero := iterate_drains (fun s => (dueCyclic s).length) takeCyclicFire_count (dueCyclic s).length s le_rfl
  rw [← takeDueCyclic_eq] at hzero
  rw [← mem_dueCyclic, List.length_eq_zero_iff.1 hzero]
  exact List.not_mem_nil

/-! ### The pulse ends of the cycle unit (R129) -/

theorem isDue_cyclicEnd {s : State} {e : CyclicEnd} :
    s.isDue (.cyclicEnd e) ↔ e ∈ s.cycle.pulseEnds ∧ e.isDue s = true := by
  simp [State.isDue, DueView.isDue, State.dueView, CyclicEnd.isDue]

/-- CYCLIC_PULSE_END of a due pulse end takes it from the pending ones (R129). -/
theorem takeCyclicEnd_pulseEnds {s : State} {place : Nat} {e : CyclicEnd} (h : s.cycle.pulseEnds[place]? = some e)
    (hdue : e.isDue s = true) : (takeCyclicEnd place s).cycle.pulseEnds = s.cycle.pulseEnds.eraseIdx place := by
  simp [takeCyclicEnd, h, hdue, cycleUpdate]

/-- One due pulse end less is pending once one has been taken. -/
theorem takeCyclicEnd_count {s : State} {place : Nat} {e : CyclicEnd} (h : s.cycle.pulseEnds[place]? = some e)
    (hdue : e.isDue s = true) :
    ((takeCyclicEnd place s).cycle.pulseEnds.filter fun x => x.isDue (takeCyclicEnd place s)).length + 1 =
      (s.cycle.pulseEnds.filter fun x => x.isDue s).length := by
  obtain ⟨hlt, hget⟩ := List.getElem?_eq_some_iff.1 h
  have hsame (x : CyclicEnd) : x.isDue (takeCyclicEnd place s) = x.isDue s := by simp [CyclicEnd.isDue]
  have hsplit : s.cycle.pulseEnds = s.cycle.pulseEnds.take place ++ e :: s.cycle.pulseEnds.drop (place + 1) := by
    rw [← hget, List.cons_getElem_drop_succ, List.take_append_drop]
  have hcount : (s.cycle.pulseEnds.filter fun x => x.isDue s).length =
      ((s.cycle.pulseEnds.take place ++ e :: s.cycle.pulseEnds.drop (place + 1)).filter fun x => x.isDue s).length := by
    rw [← hsplit]
  simp only [hsame]
  rw [takeCyclicEnd_pulseEnds h hdue, List.eraseIdx_eq_take_drop_succ, hcount]
  simp [hdue, Nat.add_assoc]

/-- The due pulse ends are taken at places, the oldest first each time, until none is due, as many as there are at most. -/
theorem drainCyclicEnds_places : ∀ (n : Nat) (s : State), (s.cycle.pulseEnds.filter fun x => x.isDue s).length ≤ n →
    ∃ places : List Nat, drainCyclicEnds n s = places.foldl (fun s p => takeCyclicEnd p s) s ∧
      (∀ e, ¬ (drainCyclicEnds n s).isDue (.cyclicEnd e)) ∧
      ∀ m place t, places[m]? = some place → (places.take m).foldl (fun s p => takeCyclicEnd p s) s = t →
        ∀ j e, j < place → t.cycle.pulseEnds[j]? = some e → e.isDue t = false
  | 0, s, hn => by
    refine ⟨[], rfl, fun e he => ?_, by simp⟩
    obtain ⟨hmem, hdue⟩ := isDue_cyclicEnd.1 he
    have hlast : e ∈ s.cycle.pulseEnds.filter fun x => x.isDue s := List.mem_filter.2 ⟨hmem, hdue⟩
    rw [List.length_eq_zero_iff.1 (Nat.le_zero.1 hn)] at hlast
    cases hlast
  | n + 1, s, hn => by
    cases hfind : s.cycle.pulseEnds.findIdx? fun e => e.isDue s with
    | none =>
      have hstands : drainCyclicEnds (n + 1) s = s := by simp [drainCyclicEnds, hfind]
      refine ⟨[], hstands, fun e he => ?_, by simp⟩
      rw [hstands] at he
      obtain ⟨hmem, hdue⟩ := isDue_cyclicEnd.1 he
      have hnone := List.findIdx?_eq_none_iff.1 hfind e hmem
      simp [hnone] at hdue
    | some place =>
      obtain ⟨hlt, hdue, hfirst⟩ := List.findIdx?_eq_some_iff_getElem.1 hfind
      have hget : s.cycle.pulseEnds[place]? = some s.cycle.pulseEnds[place] := List.getElem?_eq_getElem hlt
      have hcount := takeCyclicEnd_count hget hdue
      obtain ⟨places, hfold, hends, holdest⟩ := drainCyclicEnds_places n (takeCyclicEnd place s) (by omega)
      have hstep : drainCyclicEnds (n + 1) s = drainCyclicEnds n (takeCyclicEnd place s) := by
        simp [drainCyclicEnds, hfind]
      refine ⟨place :: places, by rw [hstep, hfold, List.foldl_cons], fun e => by rw [hstep]; exact hends e, ?_⟩
      intro m q t hq ht j e hj he
      cases m with
      | zero =>
        obtain rfl : place = q := by simpa using hq
        obtain rfl : s = t := by simpa using ht
        obtain ⟨hjlt, rfl⟩ := List.getElem?_eq_some_iff.1 he
        simpa using hfirst j hj
      | succ m => exact holdest m q t (by simpa using hq) (by simpa using ht) j e hj he

theorem calms_drainCyclicEnds (n : Nat) (s : State) : Calms K s (drainCyclicEnds n s) := by
  induction n generalizing s with
  | zero => exact Calms.refl s
  | succ n ih =>
    unfold drainCyclicEnds
    split
    · exact Calms.refl s
    · exact (calms_takeCyclicEnd _ s).trans (ih _)

/-! ### The hold unit -/

theorem holdUpdate_dueView {f : HoldUnit → HoldUnit} (hf : ∀ h, (f h).lineDue = h.lineDue) (s : State) :
    (holdUpdate f s).dueView = s.dueView := by
  simp [State.dueView, holdUpdate, hf]

@[simp] theorem actionLeavesHeld_dueView (s : State) : (actionLeavesHeld s).dueView = s.dueView := rfl

@[simp] theorem cycleLeavesHeld_dueView (s : State) : (cycleLeavesHeld s).dueView = s.dueView := rfl

/-- The entry into HELD ends entries and drops pulse ends (R113, R130, R152). -/
theorem calms_enterHeld (s : State) : Calms K s (enterHeld s) := by
  unfold enterHeld
  have haction (u : State) : Calms K u (actionEntersHeld u) := by
    have hunit : Calms K u { u with action := { u.action with held := true } } := calms_of_view rfl
    exact hunit.trans (calms_foldl (fun s i => calms_endEntry i Code.blocked none s) _ _)
  have hcycle (u : State) : Calms K u (cycleEntersHeld u) :=
    calms_cycleUpdate (fun e he _ => absurd he List.not_mem_nil) fun x hx => hx
  simp only
  refine Calms.trans ?_ (calms_of_view (raise_dueView _ _))
  refine Calms.trans ?_ (hcycle _)
  refine Calms.trans ?_ (haction _)
  refine Calms.trans ?_ (calms_of_view (forceAll_dueView _))
  exact calms_of_view (holdUpdate_dueView (fun _ => rfl) s)

theorem calms_addReason (r : Reason) (s : State) : Calms K s (addReason r s) := by
  have hset : Calms K s (holdUpdate (HoldUnit.setReason r true) s) := calms_of_view (by cases r <;> rfl)
  simp only [addReason]
  split
  · exact hset.trans (calms_of_view rfl)
  · exact hset.trans (calms_enterHeld _)

theorem calms_removeReason (r : Reason) (s : State) : Calms K s (removeReason r s) := by
  refine calms_of_view ?_
  unfold removeReason holdUpdate
  have hline : (s.hold.setReason r false).lineDue = s.hold.lineDue := by cases r <;> rfl
  simp only [State.dueView]
  split <;> simp [hline]

theorem calms_holdTakesSync (s : State) : Calms K s (holdTakesSync s) := by
  unfold holdTakesSync
  split
  · exact Calms.refl s
  · exact calms_addReason _ s
  · exact Calms.refl s
  · exact Calms.refl s
  · exact calms_removeReason _ s
  · split
    · exact calms_addReason _ s
    · exact Calms.refl s

theorem calms_holdRoundStart (s : State) : Calms K s (holdRoundStart s) := by
  unfold holdRoundStart
  split
  · refine calms_of_view ?_
    rw [leaveHeld, raise_dueView, cycleLeavesHeld_dueView, actionLeavesHeld_dueView, releaseAll_dueView]
    exact holdUpdate_dueView (fun _ => rfl) s
  · exact Calms.refl s

/-- The change of the HOLD line is due no more (R149). -/
theorem takeHoldLine_calms_ends (s : State) : Calms K s (takeHoldLine s) ∧ ¬ (takeHoldLine s).isDue .line := by
  have hline : Calms K s (holdUpdate (fun h => { h with lineActive := !s.hold.lineActive, lineRun := 0, lineDue := false }) s) := by
    refine ⟨rfl, rfl, rfl, rfl, id, fun k _ hk => ?_⟩
    cases k with
    | line => exact absurd hk Bool.false_ne_true
    | _ => exact hk
  have hnone : ¬ (holdUpdate (fun h => { h with lineActive := !s.hold.lineActive, lineRun := 0, lineDue := false }) s).isDue .line :=
    Bool.false_ne_true
  have hadd (u : State) : Calms Due.any u (addReason .line u) := calms_addReason _ u
  have hremove (u : State) : Calms Due.any u (removeReason .line u) := calms_removeReason _ u
  unfold takeHoldLine
  split
  · simp only
    split
    · exact ⟨hline.trans (hadd _).of_any, fun h => hnone ((hadd _).due .line trivial h)⟩
    · exact ⟨hline.trans (hremove _).of_any, fun h => hnone ((hremove _).due .line trivial h)⟩
  · next h => exact ⟨Calms.refl s, h⟩

end Sys2Proof.Machine
end

section
/-! SUPPORT. What the timebase, the round controller and the port make due in a step. -/

namespace Sys2Proof.Machine

variable {K : Due → Prop}

/-! ### The fall to LISTEN (R31) -/

/-- An instant that lies ahead by less than half the range has not been reached (R4). -/
theorem not_reached_ntAdd (now : NT) {n : Nat} (h0 : 0 < n) (hn : n < 2 ^ 47) : reached now (ntAdd now n) = false := by
  have hdiff : (ntAdd now n - now).toNat = n := by
    rw [ntAdd, add_sub_cancel_left, BitVec.toNat_ofNat]
    exact Nat.mod_eq_of_lt (by omega)
  simp only [reached, hdiff, decide_eq_false_iff_not]
  omega

/-- A listen timer that is set in this step is not due in it (R19). -/
theorem not_reached_listenInstant {s : State} (hp : s.profile.inRanges) :
    reached s.timebase.nt (listenInstant s) = false := by
  obtain ⟨h0, hmax, hstation, -⟩ := hp
  have hslot : s.profile.slotLen ≤ s.profile.period := Nat.div_le_self _ _
  have hslots : s.profile.station * s.profile.slotLen ≤ 256 * 50000000 :=
    Nat.mul_le_mul (Nat.le_of_lt hstation) (Nat.le_trans hslot hmax)
  exact not_reached_ntAdd _ (by omega) (by omega)

/-- The timebase's part of the fall: rounds stop, and the listen timer runs (R31). -/
theorem calms_timebaseFalls {s : State} (hp : s.profile.inRanges) (hoff : s.timebase.sync ≠ .off) :
    Calms K s (timebaseFalls s) := by
  refine ⟨rfl, rfl, rfl, rfl, fun h => absurd h hoff, fun k _ hk => ?_⟩
  cases k with
  | listen =>
    obtain ⟨-, x, hx, hr⟩ := hk
    obtain rfl : listenInstant s = x := Option.some.inj hx
    exact absurd ((not_reached_listenInstant hp).symm.trans hr) Bool.false_ne_true
  | round => exact absurd hk.1 Bool.false_ne_true
  | send => exact absurd hk.1 Bool.false_ne_true
  | _ => exact hk

theorem calms_cycleEntersListen (s : State) : Calms K s (cycleEntersListen s) :=
  calms_cycleUpdate (fun _ he _ => he) fun _ hd => absurd hd List.not_mem_nil

theorem calms_fallToListen (order : RoundOrder) (cause : Option Cause) {s : State} (hp : s.profile.inRanges)
    (hoff : s.timebase.sync ≠ .off) : Calms K s (fallToListen order cause s) := by
  have hpurge (u : State) : Calms K u (purgeQueue u) := calms_of_view (purgeQueue_dueView u)
  have hrecords (u : State) : Calms K u (requestFalls s.timebase.sync u) := calms_of_view (requestFalls_dueView _ u)
  have hcause : Calms K s (cycleEntersListen (peersAbsent (match cause with
      | none => raise .syncChange (timebaseFalls s)
      | some c => raise c (raise .syncChange (timebaseFalls s))))) := by
    refine Calms.trans ?_ (calms_cycleEntersListen _)
    refine Calms.trans ?_ (calms_of_view (peersAbsent_dueView _))
    refine (calms_timebaseFalls hp hoff).trans (calms_of_view ?_)
    split <;> simp
  unfold fallToListen
  obtain ⟨release, purgeFirst, recordsFirst, lossFirst⟩ := order
  cases purgeFirst <;> cases recordsFirst
  · exact ((hcause.trans (calms_holdTakesSync _)).trans (hrecords _)).trans (hpurge _)
  · exact ((hcause.trans (hrecords _)).trans (calms_holdTakesSync _)).trans (hpurge _)
  · exact ((hcause.trans (hpurge _)).trans (calms_holdTakesSync _)).trans (hrecords _)
  · exact ((hcause.trans (hpurge _)).trans (hrecords _)).trans (calms_holdTakesSync _)

/-! ### The end of a round (R6, R24 to R29) -/

/-- A change between states in which rounds run makes nothing due (R35). -/
theorem calms_enterSync {y : Sync} {s : State} (hs : roundsRun s.timebase.sync = true) (hy : roundsRun y = true) :
    Calms K s (enterSync y s) := by
  refine Calms.trans ?_ (calms_holdTakesSync _)
  refine Calms.trans ?_ (calms_of_view (raise_dueView _ _))
  refine ⟨rfl, rfl, rfl, rfl, fun h => ?_, fun k _ hk => ?_⟩
  · rw [h] at hs; cases hs
  cases k with
  | listen =>
    obtain ⟨hlisten, -⟩ := hk
    obtain rfl : y = .listen := hlisten
    cases hy
  | round => exact ⟨hs, hk.2⟩
  | send => exact ⟨hs, hk.2⟩
  | _ => exact hk

/-- Counts of the timebase are not what is due. -/
theorem calms_timeUpdate {f : Timebase → Timebase} {s : State} (h : (timeUpdate f s).dueView = s.dueView) :
    Calms K s (timeUpdate f s) := calms_of_view h

theorem calms_enterSynced {s : State} (hs : roundsRun s.timebase.sync = true) : Calms K s (enterSynced s) := by
  unfold enterSynced
  exact Calms.trans (calms_timeUpdate rfl) (calms_enterSync hs rfl)

theorem calms_coldstartFails (order : RoundOrder) {s : State} (hp : s.profile.inRanges) (hoff : s.timebase.sync ≠ .off) :
    Calms K s (coldstartFails order s) := by
  unfold coldstartFails
  exact Calms.trans (calms_timeUpdate rfl) (calms_fallToListen _ _ hp hoff)

theorem calms_roundTransition (order : RoundOrder) (c : Int) (refs naming : Nat) {s : State}
    (hp : s.profile.inRanges) (hs : roundsRun s.timebase.sync = true) :
    Calms K s (roundTransition order c refs naming s) := by
  have hoff : s.timebase.sync ≠ .off := fun h => by rw [h] at hs; cases hs
  unfold roundTransition
  split
  case h_1 =>
    unfold coldstartRoundEnd
    split
    · exact calms_enterSynced hs
    · split
      · exact calms_coldstartFails _ hp hoff
      · exact calms_timeUpdate rfl
  case h_2 =>
    unfold joiningRoundEnd
    split
    · split
      · exact calms_timeUpdate rfl
      · exact calms_fallToListen _ _ hp hoff
    · split
      · exact calms_fallToListen _ _ hp hoff
      · split
        · exact calms_fallToListen _ _ hp hoff
        · split
          · exact calms_timeUpdate rfl
          · exact Calms.trans (calms_timeUpdate rfl) (calms_enterSynced hs)
  case h_3 =>
    have hcount : Calms K s (timeUpdate (countRound s.profile refs naming) s) := calms_timeUpdate rfl
    simp only [syncedRoundEnd]
    split
    · exact hcount.trans (calms_fallToListen _ _ hp hoff)
    · split
      · exact hcount.trans (calms_fallToListen _ _ hp hoff)
      · split
        · split
          · exact hcount.trans (calms_fallToListen _ _ hp hoff)
          · exact hcount.trans (Calms.trans (calms_timeUpdate rfl) (calms_enterSync hs rfl))
        · exact hcount
  case h_4 =>
    unfold holdoverRoundEnd
    split
    · exact calms_fallToListen _ _ hp hoff
    · split
      · exact Calms.trans (calms_timeUpdate rfl) (calms_enterSynced hs)
      · split
        · exact calms_fallToListen _ _ hp hoff
        · exact calms_timeUpdate rfl
  case h_5 => exact Calms.refl s
  case h_6 => exact Calms.refl s

/-- A round start in the step that reaches it makes nothing lasting due (R6). -/
theorem calms_startRound (order : RoundOrder) (y : Sync) (c : Int) (refs : Nat) {s : State} (hdue : s.isDue .round) :
    Calms Due.lasting s (startRound order y c refs s) := by
  have htime : Calms Due.lasting s (s.nextRound y c refs) := by
    have hframe := (nextRound_timebase y c refs s).trans (withSlew_frame s.profile _ c _)
    refine ⟨rfl, by rw [hframe]; rfl, by rw [hframe]; rfl, rfl, fun h => (nextRound_sync y c refs s).trans h, fun k hl hk => ?_⟩
    have hview : (s.nextRound y c refs).dueView = { s.dueView with rs := roundEndInstant s } := by
      simp only [State.dueView, nextRound_frame, hframe]
      rfl
    rw [State.isDue, hview] at hk
    cases k with
    | round => exact hdue
    | send => exact absurd hl id
    | _ => exact hk
  have hpeers : Calms Due.lasting (s.nextRound y c refs) (peersRoundStart (s.nextRound y c refs)) := by
    have hview : (peersRoundStart (s.nextRound y c refs)).dueView =
        { (s.nextRound y c refs).dueView with sendTaken := false } := by
      have hctl : (peersRoundStart (s.nextRound y c refs)).roundCtl =
          { (s.nextRound y c refs).roundCtl with
            heardPrev := s.roundCtl.heardNow, heardNow := 0, sendTaken := false
            peers := ((peerNumbers s.profile).foldl countSilence (s.nextRound y c refs)).roundCtl.peers } := by
        rw [peersRoundStart, roundCtlUpdate]
        simp only
        rw [foldl_countSilence_roundCtl]
        rfl
      simp only [State.dueView, peersRoundStart_frame, hctl]
    refine ⟨by simp, by simp, by simp, by simp, fun h => by simpa using h, fun k hl hk => ?_⟩
    rw [State.isDue, hview] at hk
    cases k with
    | send => exact absurd hl id
    | _ => exact hk
  have houtputs (u : State) : Calms Due.lasting u (outputsRoundStart order.release u) := by
    unfold outputsRoundStart
    split
    · exact (calms_holdRoundStart u).trans (calms_cycleRoundStart _)
    · refine (calms_cycleRoundStart u).trans (Calms.trans ?_ (calms_holdRoundStart _))
      exact calms_foldl (fun s d => calms_fireCyclic d s) _ _
  rw [startRound_eq]
  refine ((htime.trans hpeers).trans ?_).trans (houtputs _)
  exact calms_of_view (requestsRoundStart_dueView _ _ _)

/-- ROUND_END makes nothing lasting due (R6). -/
theorem calms_takeRoundEnd (order : RoundOrder) {s : State} (hs : s.offOrInRanges) :
    Calms Due.lasting s (takeRoundEnd order s) := by
  by_cases hdue : roundEndDue s = true
  · obtain ⟨hruns, hreached⟩ := isDue_round.2 hdue
    have hp : s.profile.inRanges := hs.resolve_left fun h => by
      have hruns : roundsRun s.timebase.sync = true := hruns
      rw [h] at hruns
      cases hruns
    have hrecord : Calms Due.lasting s (timeUpdate recordRound s) := calms_timeUpdate rfl
    have htransition := hrecord.trans (calms_roundTransition order (roundCorrection s.timebase) (roundRefs s.timebase)
      (roundNaming s.timebase) hp hruns)
    rw [takeRoundEnd_due order hdue]
    simp only
    split
    · next hruns' =>
      refine htransition.trans (calms_startRound order _ _ _ ⟨hruns', ?_⟩)
      simpa [State.dueView, recordRound] using hreached
    · exact htransition
  · rw [takeRoundEnd_none order hdue]
    exact Calms.refl s

theorem calms_endRounds (n : Nat) {s : State} (hs : s.offOrInRanges) : Calms Due.lasting s (endRounds n s) := by
  induction n generalizing s with
  | zero => exact Calms.refl s
  | succ n ih =>
    have hend := calms_takeRoundEnd defaultOrder hs
    exact hend.trans (ih (hend.offOrInRanges hs))

/-- The round end is one period of NT from the round start, and has been reached for 2^47 ns from then on (R4, R6). -/
theorem reached_roundEnd {now rs : NT} {p : Nat} (h0 : 0 < p) (hp : p ≤ 50000000) :
    reached now (ntAdd rs p) = true ↔ p ≤ (now - rs).toNat ∧ (now - rs).toNat ≤ p + 2 ^ 47 := by
  simp only [reached, ntAdd, decide_eq_true_iff, BitVec.toNat_sub, BitVec.toNat_add, BitVec.toNat_ofNat]
  omega

/-- A round end that is taken leaves the next one a period later, where rounds run on (R6). -/
theorem takeRoundEnd_elapsed (order : RoundOrder) {s : State} (hdue : roundEndDue s = true)
    (hruns : roundsRun (takeRoundEnd order s).timebase.sync = true) :
    (takeRoundEnd order s).timebase.rs = ntAdd s.timebase.rs s.profile.period := by
  rw [takeRoundEnd_due order hdue] at hruns ⊢
  simp only at hruns ⊢
  split
  · rw [startRound_timebase, nextRound_timebase, withSlew_frame]
    simp [State.roundBegun, roundEndInstant, recordRound]
  · next h => exact absurd (by rwa [if_neg h] at hruns) h

/-- Once the round ends that a step has reached have been taken none is due (R4, R6). -/
theorem takeRoundEnds_ends {s : State} (hs : s.offOrInRanges) : ¬ (takeRoundEnds s).isDue .round := by
  have hinRanges {u : State} (hu : u.offOrInRanges) (hdue : roundEndDue u = true) : u.profile.inRanges :=
    hu.resolve_left fun h => by
      have hruns := (isDue_round.2 hdue).1
      have hruns : roundsRun u.timebase.sync = true := hruns
      rw [h] at hruns
      cases hruns
  have hcount : ∀ (n : Nat) (u : State), u.offOrInRanges →
      (roundEndDue u = true → (u.timebase.nt - u.timebase.rs).toNat / u.profile.period ≤ n) →
      ¬ roundEndDue (endRounds n u) = true := by
    intro n
    induction n with
    | zero =>
      intro u hu hn hdue
      have hdue : roundEndDue u = true := hdue
      obtain ⟨h0, hmax, -⟩ := hinRanges hu hdue
      have hreached := ((reached_roundEnd h0 hmax).1 (isDue_round.2 hdue).2).1
      have hone := Nat.div_pos hreached h0
      have hzero := hn hdue
      simp only [State.dueView] at hone
      omega
    | succ n ih =>
      intro u hu hn
      refine ih (takeRoundEnd defaultOrder u) ((calms_takeRoundEnd defaultOrder hu).offOrInRanges hu) fun hnext => ?_
      by_cases hdue : roundEndDue u = true
      · obtain ⟨h0, hmax, -⟩ := hinRanges hu hdue
        have hle : u.profile.period ≤ (u.timebase.nt - u.timebase.rs).toNat :=
          ((reached_roundEnd h0 hmax).1 (isDue_round.2 hdue).2).1
        have hrs := takeRoundEnd_elapsed defaultOrder hdue (isDue_round.2 hnext).1
        have hdiv := hn hdue
        have helapsed : (u.timebase.nt - ntAdd u.timebase.rs u.profile.period).toNat =
            (u.timebase.nt - u.timebase.rs).toNat - u.profile.period := by
          simp only [ntAdd, BitVec.toNat_sub, BitVec.toNat_add, BitVec.toNat_ofNat] at hle ⊢
          omega
        rw [hrs]
        simp only [takeRoundEnd_instants, takeRoundEnd_frame, helapsed]
        rw [Nat.div_eq_sub_div h0 hle] at hdiv
        exact Nat.le_of_succ_le_succ hdiv
      · rw [takeRoundEnd_none defaultOrder hdue] at hnext
        exact absurd hnext hdue
  rw [isDue_round]
  refine hcount (roundsDue s) s hs fun hdue => ?_
  simp [roundsDue, hdue]

/-! ### The listen timer (R19) -/

/-- The entry into COLDSTART, as its parts. -/
theorem takeListenExpiry_view (s : State) (h : s.isDue .listen) :
    (takeListenExpiry s).dueView =
      { s.dueView with sync := .coldstart, listenTimer := none, rs := s.timebase.nt, sendTaken := false } := by
  obtain ⟨hsync, x, hx, hr⟩ := h
  have hsync : s.timebase.sync = .listen := hsync
  have hx : s.timebase.listenTimer = some x := hx
  have hr : reached s.timebase.nt x = true := hr
  have hcold (u : State) : enterSync .coldstart u = raise .syncChange (timeUpdate (fun t => { t with sync := .coldstart }) u) :=
    rfl
  simp only [takeListenExpiry, hsync, hx, hr, if_true, hcold, raise_dueView]
  rfl

/-- LISTEN_TIMER_EXPIRY where the timer is not due. -/
theorem takeListenExpiry_none {s : State} (h : ¬ s.isDue .listen) : takeListenExpiry s = s := by
  unfold takeListenExpiry
  split
  · next x hsync hx =>
    split
    · next hr => exact absurd ⟨hsync, x, hx, hr⟩ h
    · rfl
  all_goals rfl

/-- LISTEN_TIMER_EXPIRY makes nothing lasting due, and the timer is due no more (R19). -/
theorem takeListenExpiry_calms_ends {s : State} (hs : s.offOrInRanges) :
    Calms Due.lasting s (takeListenExpiry s) ∧ ¬ (takeListenExpiry s).isDue .listen := by
  by_cases hdue : s.isDue .listen
  · have hview := takeListenExpiry_view s hdue
    have hsync : s.timebase.sync = .listen := hdue.1
    obtain ⟨h0, hmax, -⟩ : s.profile.inRanges := hs.resolve_left (by rw [hsync]; decide)
    have hnt : (takeListenExpiry s).timebase.nt = s.timebase.nt := congrArg DueView.nt hview
    have hstep : (takeListenExpiry s).timebase.stepNo = s.timebase.stepNo := congrArg DueView.stepNo hview
    refine ⟨⟨by simp, hnt, hstep, by simp, fun h => ?_, fun k hl hk => ?_⟩, fun h => ?_⟩
    · rw [hsync] at h
      cases h
    · rw [State.isDue, hview] at hk
      cases k with
      | listen => exact hdue
      | round =>
        have hr : reached s.timebase.nt (ntAdd s.timebase.nt s.profile.period) = true := hk.2
        rw [not_reached_ntAdd _ h0 (by omega)] at hr
        cases hr
      | send => exact absurd hl id
      | _ => exact hk
    · rw [State.isDue, hview] at h
      cases h.1
  · rw [takeListenExpiry_none hdue]
    exact ⟨Calms.refl s, hdue⟩

/-! ### The own frame and the reception -/

/-- FRAME_SENT_WHOLE makes nothing due, and the frame in flight is over no more (R45). -/
theorem takeFrameSent_calms_ends (s : State) : Calms K s (takeFrameSent s) ∧ ¬ (takeFrameSent s).isDue .frame := by
  unfold takeFrameSent
  split
  · next hnone =>
    refine ⟨Calms.refl s, ?_⟩
    rintro ⟨n, hn, -⟩
    simp [State.dueView, hnone] at hn
  · next f hf =>
    split
    · have hended : Calms K s (endOwnFrame s) := by
        refine ⟨rfl, rfl, rfl, rfl, id, fun k _ hk => ?_⟩
        cases k with
        | frame =>
          obtain ⟨n, hn, -⟩ := hk
          cases hn
        | cut =>
          obtain ⟨r, hr⟩ := hk
          have hr : s.roundCtl.receiver.afterOwnFrame = .cutShort r := hr
          refine ⟨r, ?_⟩
          change s.roundCtl.receiver = .cutShort r
          cases hreceiver : s.roundCtl.receiver <;> simp [hreceiver, Receiver.afterOwnFrame] at hr ⊢
          exact hr
        | _ => exact hk
      have hview := (foldl_reportSent_dueView f.round (s.roundCtl.queue.take f.packed)
        (setQueue (s.roundCtl.queue.drop f.packed) (endOwnFrame s))).trans (setQueue_dueView _ _)
      refine ⟨hended.trans (calms_of_view hview), ?_⟩
      rintro ⟨n, hn, -⟩
      rw [hview] at hn
      cases hn
    · next hdone =>
      refine ⟨Calms.refl s, ?_⟩
      rintro ⟨n, hn, hle⟩
      obtain rfl : f.begun + framePeriods s.profile f.octets.length = n := by simpa [State.dueView, hf] using hn
      exact hdone (decide_eq_true hle)

/-- Every kind of event but the reception cut short, which the own send instant brings about (R47). -/
def Due.notCut : Due → Prop
  | .answer => True
  | .edge _ => True
  | .line => True
  | .frame => True
  | .pulse _ => True
  | .cyclicEnd _ => True
  | .listen => True
  | .round => True
  | .expiry _ => True
  | .fire _ => True
  | .cyclicFire _ => True
  | .send => True
  | .cut => False
  | .capture => True

theorem Due.notCut_of_lasting {k : Due} (h : k.lasting) : k.notCut := by
  cases k with
  | cut => exact h
  | _ => trivial

/-- OWN_SEND_INSTANT where it is not due. -/
theorem takeSendInstant_none {s : State} (h : ¬ s.isDue .send) : takeSendInstant s = s := by
  unfold takeSendInstant
  rw [if_neg]
  intro hdue
  simp only [Bool.and_eq_true, Bool.not_eq_true'] at hdue
  obtain ⟨⟨hruns, htaken⟩, hr⟩ := hdue
  exact h ⟨hruns, htaken, hr⟩

/-- OWN_SEND_INSTANT makes nothing due but the failure of a reception it cuts short, and it is due no more (R38). -/
theorem takeSendInstant_calms_ends {s : State} (hs : s.offOrInRanges) :
    Calms Due.notCut s (takeSendInstant s) ∧ ¬ (takeSendInstant s).isDue .send := by
  by_cases hdue : s.isDue .send
  · obtain ⟨hruns, htaken, hr⟩ := id hdue
    have hruns : roundsRun s.timebase.sync = true := hruns
    have htaken : s.roundCtl.sendTaken = false := htaken
    have hr : reached s.timebase.nt (ownSendInstant s) = true := hr
    obtain ⟨-, -, -, hbit⟩ : s.profile.inRanges := hs.resolve_left fun h => by rw [h] at hruns; cases hruns
    have htook : Calms Due.notCut s (roundCtlUpdate (fun r => { r with sendTaken := true }) s) := by
      refine ⟨rfl, rfl, rfl, rfl, id, fun k _ hk => ?_⟩
      cases k with
      | send => exact hdue
      | _ => exact hk
    have hbegun (u : State) (hu : 0 < u.profile.bitPeriods) : Calms Due.notCut u (beginFrame u) := by
      refine ⟨rfl, rfl, rfl, rfl, id, fun k hcut hk => ?_⟩
      cases k with
      | frame =>
        obtain ⟨n, hn, hle⟩ := hk
        obtain rfl := Option.some.inj hn
        have hlength : 0 < (frameOctets (ownFrame u)).length := by simp [frameOctets]
        have hpos : 0 < framePeriods u.profile (frameOctets (ownFrame u)).length :=
          Nat.mul_pos (Nat.mul_pos hlength (by decide)) hu
        have hle : u.timebase.stepNo + framePeriods u.profile (frameOctets (ownFrame u)).length ≤ u.timebase.stepNo := hle
        omega
      | cut => exact absurd hcut id
      | _ => exact hk
    have htake : takeSendInstant s =
        if sends s.timebase.sync && s.roundCtl.inFlight.isNone then
          beginFrame (roundCtlUpdate (fun r => { r with sendTaken := true }) s)
        else roundCtlUpdate (fun r => { r with sendTaken := true }) s := by
      simp [takeSendInstant, hruns, htaken, hr]
    rw [htake]
    split
    · exact ⟨htook.trans (hbegun _ hbit), fun h => Bool.false_ne_true h.2.1.symm⟩
    · exact ⟨htook, fun h => Bool.false_ne_true h.2.1.symm⟩
  · rw [takeSendInstant_none hdue]
    exact ⟨Calms.refl s, hdue⟩

/-- No reception was cut short. -/
theorem drainCut_none {s : State} (h : ¬ s.isDue .cut) : drainCut s = s := by
  unfold drainCut
  split
  · next r hr => exact absurd ⟨r, hr⟩ h
  all_goals rfl

/-- FRAME_FAILED of the reception cut short makes nothing due, and no reception is cut short then (R47). -/
theorem drainCut_calms_ends {s : State} (hs : s.offOrInRanges) :
    Calms K s (drainCut s) ∧ ¬ (drainCut s).isDue .cut := by
  have hcount (r : Reception) (f : Peer → Peer) (u : State) : (countAttributed r f u).dueView = u.dueView := by
    have hpeer (k : Nat) (u : State) : (peerUpdate k f u).dueView = u.dueView := by
      unfold peerUpdate
      split <;> rfl
    simp only [countAttributed]
    split
    · split
      · split <;> rfl
      · refine (hpeer _ _).trans ?_
        split <;> rfl
    · rfl
  have hdisturbed (u : State) (hu : u.offOrInRanges) : Calms Due.any u (coldstartDisturbed u) := by
    unfold coldstartDisturbed
    split
    · next hsync =>
      have hoff : u.timebase.sync ≠ .off := by rw [hsync]; decide
      exact calms_coldstartFails _ (hu.resolve_left hoff) hoff
    all_goals exact Calms.refl u
  by_cases hcut : s.isDue .cut
  · obtain ⟨r, hr⟩ := hcut
    have hr : s.roundCtl.receiver = .cutShort r := hr
    have htake : drainCut s = takeGarbled r (endReception s) := by simp [drainCut, hr, takeFrameFailed]
    have hended : Calms Due.any s (endReception s) := by
      refine ⟨rfl, rfl, rfl, rfl, id, fun k _ hk => ?_⟩
      cases k with
      | cut => obtain ⟨r, hr⟩ := hk; cases hr
      | _ => exact hk
    have hcounted := hended.trans (calms_of_view (hcount r (fun p => { p with checkFails := satAdd16 p.checkFails 1 })
      (endReception s)))
    have hgarbled := hdisturbed _ (hcounted.offOrInRanges hs)
    rw [htake]
    refine ⟨(hcounted.trans hgarbled).of_any, fun h => ?_⟩
    obtain ⟨r', hr'⟩ := hgarbled.due .cut trivial h
    rw [hcount] at hr'
    cases hr'
  · rw [drainCut_none hcut]
    exact ⟨Calms.refl s, hcut⟩

/-! ### The port (R15, R181) -/

/-- ANSWER_READY makes nothing due, and no answer is due then (R181). -/
theorem takeAnswerReady_calms_ends (s : State) :
    Calms K s (takeAnswerReady true s) ∧ ¬ (takeAnswerReady true s).isDue .answer := by
  unfold takeAnswerReady
  split
  · next at' left ht =>
    split
    · refine ⟨⟨rfl, rfl, rfl, rfl, id, fun k _ hk => ?_⟩, ?_⟩
      · cases k with
        | answer => obtain ⟨_, _, hready, -⟩ := hk; cases hready
        | _ => exact hk
      · rintro ⟨_, _, hready, -⟩
        cases hready
    · next hlate =>
      refine ⟨Calms.refl s, ?_⟩
      rintro ⟨at'', left', hready, hle⟩
      have hready : s.port.transaction = .answer at'' false left' := hready
      rw [ht] at hready
      cases hready
      exact hlate hle
  all_goals
    next ht =>
      refine ⟨Calms.refl s, ?_⟩
      rintro ⟨_, _, hready, -⟩
      have hready : s.port.transaction = _ := hready
      rw [ht] at hready
      cases hready

/-- The capture of a READ_TIME's values makes nothing due, and it is due no more (R15). -/
theorem captureTime_calms_ends (s : State) : Calms K s (captureTime s) ∧ ¬ (captureTime s).isDue .capture := by
  unfold captureTime
  split
  · refine ⟨⟨rfl, rfl, rfl, rfl, id, fun k _ hk => ?_⟩, Bool.false_ne_true⟩
    cases k with
    | answer =>
      obtain ⟨at', left, hready, hle⟩ := hk
      have hready : (s.port.capturing (timeData s.timebase)).transaction = .answer at' false left := hready
      simp only [Port.capturing] at hready
      split at hready
      · next at'' _ ht => cases hready; exact ⟨_, _, ht, hle⟩
      · exact ⟨at', left, hready, hle⟩
    | capture => exact absurd hk Bool.false_ne_true
    | _ => exact hk
  · next h => exact ⟨Calms.refl s, h⟩

end Sys2Proof.Machine
end

section
/-! SUPPORT. The taking of what is due in a step, in the model's order (R4; assumption 3): nothing is left due. -/

namespace Sys2Proof.Machine

variable {K : Due → Prop} {s t : State}

/-! ### The stages -/

/-- Only a channel of the station has an edge due. -/
theorem lt_of_isDue_edge {c : Nat} (h : s.isDue (.edge c)) : c < 8 := by
  obtain ⟨hedge, -⟩ := h
  obtain ⟨ch, hch, -⟩ := (Option.any_eq_true _ _).1 hedge
  exact (Vector.getElem?_eq_some_iff.1 hch).1

/-- Only a place of the armed list has a pulse end due. -/
theorem lt_of_isDue_pulse {i : Nat} (h : s.isDue (.pulse i)) : i < 48 := by
  obtain ⟨e, he, -⟩ := isDue_pulse.1 h
  exact lt_of_entryAt he

/-- Only a place of the armed list has an expiry due. -/
theorem lt_of_isDue_expiry {i : Nat} (h : s.isDue (.expiry i)) : i < 48 := by
  obtain ⟨e, he, -⟩ := isDue_expiry.1 h
  exact lt_of_entryAt he

theorem drainLines_calms_ends (s : State) :
    Calms Due.lasting s (drainLines s) ∧ ¬ (drainLines s).isDue .answer ∧ (∀ c, ¬ (drainLines s).isDue (.edge c)) ∧
      ¬ (drainLines s).isDue .line ∧ ¬ (drainLines s).isDue .frame := by
  obtain ⟨hanswer, hanswerEnds⟩ := takeAnswerReady_calms_ends (K := Due.lasting) s
  have hedges : Calms Due.lasting (takeAnswerReady true s)
      ((List.range 8).foldl (fun s c => takeEdge c false s) (takeAnswerReady true s)) :=
    calms_foldl (fun s c => calms_takeEdge c false s) _ _
  have hedgesEnd (c : Nat) :
      ¬ ((List.range 8).foldl (fun s c => takeEdge c false s) (takeAnswerReady true s)).isDue (.edge c) := fun h =>
    foldl_ends (D := fun s c => s.isDue (.edge c)) (fun s c => takeEdge_ends c false s)
      (fun s c j => (calms_takeEdge c false s).due (.edge j) trivial) _ _ (List.mem_range.2 (lt_of_isDue_edge h)) h
  obtain ⟨hline, hlineEnds⟩ := takeHoldLine_calms_ends (K := Due.lasting)
    ((List.range 8).foldl (fun s c => takeEdge c false s) (takeAnswerReady true s))
  obtain ⟨hframe, hframeEnds⟩ := takeFrameSent_calms_ends (K := Due.lasting)
    (takeHoldLine ((List.range 8).foldl (fun s c => takeEdge c false s) (takeAnswerReady true s)))
  refine ⟨((hanswer.trans hedges).trans hline).trans hframe, fun h => ?_, fun c h => ?_, fun h => ?_, hframeEnds⟩
  · exact hanswerEnds (((hedges.trans hline).trans hframe).due .answer trivial h)
  · exact hedgesEnd c ((hline.trans hframe).due (.edge c) trivial h)
  · exact hlineEnds (hframe.due .line trivial h)

theorem drainPulseEnds_calms_ends (s : State) :
    Calms Due.lasting s (drainPulseEnds s) ∧ (∀ i, ¬ (drainPulseEnds s).isDue (.pulse i)) ∧
      ∀ e, ¬ (drainPulseEnds s).isDue (.cyclicEnd e) := by
  have hpulses : Calms Due.lasting s ((List.range 48).foldl (fun s i => takePulseEnd i s) s) :=
    calms_foldl (fun s i => calms_takePulseEnd i s) _ _
  have hpulsesEnd (i : Nat) : ¬ ((List.range 48).foldl (fun s i => takePulseEnd i s) s).isDue (.pulse i) := fun h =>
    foldl_ends (D := fun s i => s.isDue (.pulse i)) (fun s i => takePulseEnd_ends i s)
      (fun s i j => (calms_takePulseEnd i s).due (.pulse j) trivial) _ _ (List.mem_range.2 (lt_of_isDue_pulse h)) h
  have hcyclic : Calms Due.lasting _ (drainPulseEnds s) := calms_drainCyclicEnds _ _
  obtain ⟨_, -, hcyclicEnds, -⟩ := drainCyclicEnds_places _ ((List.range 48).foldl (fun s i => takePulseEnd i s) s)
    (List.length_filter_le _ _)
  exact ⟨hpulses.trans hcyclic, fun i h => hpulsesEnd i (hcyclic.due (.pulse i) trivial h), hcyclicEnds⟩

theorem drainRoundEnds_calms_ends (hs : s.offOrInRanges) :
    Calms Due.lasting s (drainRoundEnds s) ∧ ¬ (drainRoundEnds s).isDue .listen ∧ ¬ (drainRoundEnds s).isDue .round := by
  obtain ⟨hlisten, hlistenEnds⟩ := takeListenExpiry_calms_ends hs
  have hrounds : Calms Due.lasting (takeListenExpiry s) (drainRoundEnds s) :=
    calms_endRounds _ (hlisten.offOrInRanges hs)
  exact ⟨hlisten.trans hrounds, fun h => hlistenEnds (hrounds.due .listen trivial h),
    takeRoundEnds_ends (hlisten.offOrInRanges hs)⟩

theorem drainStarts_calms_ends (s : State) :
    Calms Due.lasting s (drainStarts s) ∧ (∀ i, ¬ (drainStarts s).isDue (.fire i)) ∧
      ∀ d, ¬ (drainStarts s).isDue (.cyclicFire d) := by
  have hfires : Calms Due.lasting s (drainFires (firesLeft s) s) := by
    rw [drainFires_eq]
    exact calms_iterate calms_takeFire _ s
  have hcyclic : Calms Due.any (drainFires (firesLeft s) s) (drainStarts s) := calms_takeDueCyclic _
  exact ⟨hfires.trans hcyclic.of_any, fun i h => drainFires_ends s i (hcyclic.due (.fire i) trivial h),
    takeDueCyclic_ends _⟩

theorem drainActions_calms_ends (s : State) :
    Calms Due.lasting s (drainActions s) ∧ (∀ i, ¬ (drainActions s).isDue (.expiry i)) ∧
      (∀ i, ¬ (drainActions s).isDue (.fire i)) ∧ ∀ d, ¬ (drainActions s).isDue (.cyclicFire d) := by
  have hexpiries : Calms Due.lasting s ((List.range 48).foldl (fun s i => takeExpiry i s) s) :=
    calms_foldl (fun s i => calms_takeExpiry i s) _ _
  have hcalm (s : State) (i : Nat) : Calms Due.any s (takeExpiry i s) := calms_takeExpiry i s
  have hexpiriesEnd (i : Nat) : ¬ ((List.range 48).foldl (fun s i => takeExpiry i s) s).isDue (.expiry i) := fun h =>
    foldl_ends (D := fun s i => s.isDue (.expiry i)) (fun s i => takeExpiry_ends i s)
      (fun s i j => (hcalm s i).due (.expiry j) trivial) _ _ (List.mem_range.2 (lt_of_isDue_expiry h)) h
  obtain ⟨hstarts, hfires, hcyclic⟩ := drainStarts_calms_ends ((List.range 48).foldl (fun s i => takeExpiry i s) s)
  exact ⟨hexpiries.trans hstarts, fun i h => hexpiriesEnd i (hstarts.due (.expiry i) trivial h), hfires, hcyclic⟩

/-! ### The whole step -/

/-- Once what is due has been taken nothing is due (R4). -/
theorem drainDue_ends (hs : s.offOrInRanges) : (drainDue s).inReset = s.inReset ∧ ∀ k, ¬ (drainDue s).isDue k := by
  obtain ⟨hlines, hanswer, hedge, hline, hframe⟩ := drainLines_calms_ends s
  obtain ⟨hpulses, hpulse, hcyclicEnd⟩ := drainPulseEnds_calms_ends (drainLines s)
  have hs2 := (hlines.trans hpulses).offOrInRanges hs
  obtain ⟨hrounds, hlisten, hround⟩ := drainRoundEnds_calms_ends hs2
  have hs3 := hrounds.offOrInRanges hs2
  obtain ⟨hactions, hexpiry, hfire, hcyclicFire⟩ := drainActions_calms_ends
    (drainRoundEnds (drainPulseEnds (drainLines s)))
  have hs4 := hactions.offOrInRanges hs3
  obtain ⟨hsent, hsend⟩ := takeSendInstant_calms_ends hs4
  have hs5 := hsent.offOrInRanges hs4
  obtain ⟨hfailed, hcut⟩ := drainCut_calms_ends (K := Due.any) hs5
  obtain ⟨hcaptured, hcapture⟩ := captureTime_calms_ends (K := Due.any)
    (drainCut (takeSendInstant (drainActions (drainRoundEnds (drainPulseEnds (drainLines s))))))
  have hend : Calms Due.any _ (drainDue s) := hfailed.trans hcaptured
  have hsending : Calms Due.notCut _ (drainDue s) := hsent.trans hend.of_any
  have hlasting : Calms Due.lasting _ (drainDue s) :=
    hsending.mono fun _ => Due.notCut_of_lasting
  have hacting := hactions.trans hlasting
  have hrounding := hrounds.trans hacting
  have hpulsing := hpulses.trans hrounding
  refine ⟨(hlines.trans hpulsing).inReset, fun k hk => ?_⟩
  cases k with
  | answer => exact hanswer (hpulsing.due .answer trivial hk)
  | edge c => exact hedge c (hpulsing.due (.edge c) trivial hk)
  | line => exact hline (hpulsing.due .line trivial hk)
  | frame => exact hframe (hpulsing.due .frame trivial hk)
  | pulse i => exact hpulse i (hrounding.due (.pulse i) trivial hk)
  | cyclicEnd e => exact hcyclicEnd e (hrounding.due (.cyclicEnd e) trivial hk)
  | listen => exact hlisten (hacting.due .listen trivial hk)
  | round => exact hround (hacting.due .round trivial hk)
  | expiry i => exact hexpiry i (hlasting.due (.expiry i) trivial hk)
  | fire i => exact hfire i (hsending.due (.fire i) trivial hk)
  | cyclicFire d => exact hcyclicFire d (hsending.due (.cyclicFire d) trivial hk)
  | send => exact hsend (hend.due .send trivial hk)
  | cut => exact hcut (hcaptured.due .cut trivial hk)
  | capture => exact hcapture hk

/-- Once what brings the drive lines something has been taken nothing that does is due (assumption 36). -/
theorem drainDrives_ends (hs : s.offOrInRanges) :
    ¬ (drainDrives s).isDue .line ∧ ¬ (drainDrives s).isDue .round ∧ (∀ i, ¬ (drainDrives s).isDue (.pulse i)) ∧
      (∀ i, ¬ (drainDrives s).isDue (.fire i)) ∧ (∀ d, ¬ (drainDrives s).isDue (.cyclicFire d)) ∧
      ∀ e, ¬ (drainDrives s).isDue (.cyclicEnd e) := by
  obtain ⟨hheld, hline⟩ := takeHoldLine_calms_ends (K := Due.lasting) s
  obtain ⟨hpulses, hpulse, hcyclicEnd⟩ := drainPulseEnds_calms_ends (takeHoldLine s)
  have hs2 := (hheld.trans hpulses).offOrInRanges hs
  have hrounds : Calms Due.lasting _ (takeRoundEnds (drainPulseEnds (takeHoldLine s))) := calms_endRounds _ hs2
  obtain ⟨hstarts, hfire, hcyclicFire⟩ := drainStarts_calms_ends (takeRoundEnds (drainPulseEnds (takeHoldLine s)))
  have hrounding := hrounds.trans hstarts
  exact ⟨fun h => hline ((hpulses.trans hrounding).due .line trivial h),
    fun h => takeRoundEnds_ends hs2 (hstarts.due .round trivial h),
    fun i h => hpulse i (hrounding.due (.pulse i) trivial h), hfire, hcyclicFire,
    fun e h => hcyclicEnd e (hrounding.due (.cyclicEnd e) trivial h)⟩

/-! ### A step with nothing due -/

theorem drainLines_none (hanswer : ¬ s.isDue .answer) (hedge : ∀ c, ¬ s.isDue (.edge c)) (hline : ¬ s.isDue .line)
    (hframe : ¬ s.isDue .frame) : drainLines s = s := by
  have htakeAnswer : takeAnswerReady true s = s := by
    unfold takeAnswerReady
    split
    · next at' left ht =>
      split
      · next hle => exact absurd ⟨at', left, ht, hle⟩ hanswer
      · rfl
    all_goals rfl
  have htakeEdge (c : Nat) : takeEdge c false s = s := by
    unfold takeEdge
    split
    · next cfg ch hcfg hch =>
      split
      · next hdue => exact absurd ⟨(Option.any_eq_true _ _).2 ⟨ch, hch, hdue⟩, cfg, hcfg⟩ (hedge c)
      · rfl
    all_goals rfl
  have htakeLine : takeHoldLine s = s := if_neg hline
  have htakeFrame : takeFrameSent s = s := by
    unfold takeFrameSent
    split
    · rfl
    · next f hf =>
      split
      · next hdone =>
        have hover : s.dueView.frameEnd = some (f.begun + framePeriods s.profile f.octets.length) := by
          simp [State.dueView, hf]
        exact absurd ⟨_, hover, of_decide_eq_true hdone⟩ hframe
      · rfl
  have hedges : (List.range 8).foldl (fun s c => takeEdge c false s) s = s := List.foldl_fixed' htakeEdge _
  simp only [drainLines, htakeAnswer, hedges, htakeLine, htakeFrame]

theorem drainPulseEnds_none (hpulse : ∀ i, ¬ s.isDue (.pulse i)) (hcyclic : ∀ e, ¬ s.isDue (.cyclicEnd e)) :
    drainPulseEnds s = s := by
  have htake (i : Nat) : takePulseEnd i s = s := by
    unfold takePulseEnd
    split
    · rfl
    · next e he =>
      split
      · next ends since c hst =>
        split
        · next hdue =>
          obtain ⟨hsince, hr⟩ := Bool.and_eq_true_iff.1 hdue
          unfold endPulse
          split
          · rfl
          · rfl
          · next l w heff =>
            exact absurd (isDue_pulse.2 ⟨e, he, ⟨l, w, heff⟩, ends, since, c, hst, of_decide_eq_true hsince, hr⟩)
              (hpulse i)
        · rfl
      all_goals rfl
  have hnone : s.cycle.pulseEnds.findIdx? (fun e => e.isDue s) = none :=
    List.findIdx?_eq_none_iff.2 fun e he => by
      have hnot : ¬ e.isDue s = true := fun hdue => hcyclic e (isDue_cyclicEnd.2 ⟨he, hdue⟩)
      simpa using hnot
  have hdrain (n : Nat) : drainCyclicEnds n s = s := by
    cases n with
    | zero => rfl
    | succ n => simp [drainCyclicEnds, hnone]
  have hpulses : (List.range 48).foldl (fun s i => takePulseEnd i s) s = s := List.foldl_fixed' htake _
  simp only [drainPulseEnds, hpulses, hdrain]

theorem drainActions_none (hexpiry : ∀ i, ¬ s.isDue (.expiry i)) (hfire : ∀ i, ¬ s.isDue (.fire i))
    (hcyclic : ∀ d, ¬ s.isDue (.cyclicFire d)) : drainActions s = s := by
  have htake (i : Nat) : takeExpiry i s = s := by
    unfold takeExpiry
    split
    · rfl
    · next e he =>
      split
      · next since x hst hx =>
        split
        · next hdue =>
          obtain ⟨hsince, hr⟩ := Bool.and_eq_true_iff.1 hdue
          exact absurd (isDue_expiry.2 ⟨e, he, since, x, hst, hx, of_decide_eq_true hsince, hr⟩) (hexpiry i)
        · rfl
      all_goals rfl
  have hfires : drainFires (firesLeft s) s = s := by
    rw [drainFires_eq]
    exact Function.iterate_fixed (takeFire_none (dueFires_eq_nil.2 hfire)) _
  have hnil : dueCyclic s = [] := List.eq_nil_iff_forall_not_mem.2 fun d hd => hcyclic d (mem_dueCyclic.1 hd)
  have hexpiries : (List.range 48).foldl (fun s i => takeExpiry i s) s = s := List.foldl_fixed' htake _
  simp only [drainActions, hexpiries, drainStarts, hfires, takeDueCyclic, hnil, List.foldl_nil]

/-- Where nothing is due nothing is taken (R4). -/
theorem drainDue_none (h : ∀ k, ¬ s.isDue k) : drainDue s = s := by
  have hrounds : drainRoundEnds s = s := by
    rw [drainRoundEnds, takeListenExpiry_none (h .listen)]
    exact takeRoundEnds_none (Bool.eq_false_iff.2 fun hdue => h .round (isDue_round.2 hdue))
  have hcapture : s.port.timeDue = false := Bool.eq_false_iff.2 (h .capture)
  rw [drainDue, drainLines_none (h .answer) (fun c => h (.edge c)) (h .line) (h .frame),
    drainPulseEnds_none (fun i => h (.pulse i)) (fun e => h (.cyclicEnd e)), hrounds,
    drainActions_none (fun i => h (.expiry i)) (fun i => h (.fire i)) (fun d => h (.cyclicFire d)),
    takeSendInstant_none (h .send), drainCut_none (h .cut), captureTime_none hcapture]

end Sys2Proof.Machine
end

section
/-! SETTLED. A reference period takes what is still due and leaves nothing due (O30). -/

namespace Sys2Proof.Machine

/-! ### Rows executed one after another -/

theorem execAll_append {a b : List Instr} {s t : State} (h : execAll a s = .next t) : execAll (a ++ b) s = execAll b t := by
  rw [execAll] at h
  rw [execAll, List.foldl_append, h]
  rfl

theorem execAll_cons {c : Instr} {cs : List Instr} {s t : State} (h : exec c s = .next t) :
    execAll (c :: cs) s = execAll cs t := execAll_append (a := [c]) h

/-- Rows of one kind at places are a fold of what the row does. -/
theorem execAll_map {α : Type} {g : α → Instr} {f : State → α → State} (h : ∀ s x, exec (g x) s = .next (f s x))
    (l : List α) (s : State) : execAll (l.map g) s = .next (l.foldl f s) := by
  induction l generalizing s with
  | nil => rfl
  | cons x l ih => rw [List.map_cons, execAll_cons (h s x), ih, List.foldl_cons]

/-- One row over and over is an iteration of what the row does. -/
theorem execAll_replicate {c : Instr} {f : State → State} (h : ∀ s, exec c s = .next (f s)) (n : Nat) (s : State) :
    execAll (List.replicate n c) s = .next (f^[n] s) := by
  induction n generalizing s with
  | zero => rfl
  | succ n ih => rw [List.replicate_succ, execAll_cons (h s), ih, Function.iterate_succ_apply]

theorem exec_cyclicPulseEnd (s : State) (p : Nat) : exec (.cyclicPulseEnd p) s = .next (takeCyclicEnd p s) := rfl

/-- The pulse ends of the cycle unit, one row for each, oldest first (R129). -/
theorem execAll_drainCyclicEnds (s : State) :
    ∃ places : List Nat, s.oldestFirst places ∧
      execAll (places.map .cyclicPulseEnd) s = .next (drainCyclicEnds s.cycle.pulseEnds.length s) := by
  obtain ⟨places, hfold, -, holdest⟩ := drainCyclicEnds_places s.cycle.pulseEnds.length s (List.length_filter_le _ _)
  refine ⟨places, fun m place t hplace ht j e hj he hdue => ?_, ?_⟩
  · rw [execAll_map exec_cyclicPulseEnd] at ht
    have hnot := holdest m place t hplace (Host.Outcome.next.inj ht) j e hj he
    simp [CyclicEnd.isDue, hdue] at hnot
  · rw [execAll_map exec_cyclicPulseEnd, hfold]

theorem endRounds_eq (n : Nat) (s : State) : endRounds n s = (takeRoundEnd defaultOrder)^[n] s := by
  induction n generalizing s with
  | zero => rfl
  | succ n ih => rw [endRounds, ih, Function.iterate_succ_apply]

/-- The round ends of a step, one row for each (R6). -/
theorem execAll_takeRoundEnds (s : State) :
    execAll (List.replicate (roundsDue s) (.roundEnd defaultOrder)) s = .next (takeRoundEnds s) := by
  have hrow (s : State) : exec (.roundEnd defaultOrder) s = .next (takeRoundEnd defaultOrder s) := rfl
  rw [execAll_replicate hrow, takeRoundEnds, endRounds_eq]

/-- The fires of a step, one row for each (R101, R128). -/
theorem execAll_drainStarts (s : State) :
    execAll (List.replicate (firesLeft s) .fire ++
      List.replicate (dueCyclic (drainFires (firesLeft s) s)).length .cyclicFire) s = .next (drainStarts s) := by
  have hfire (s : State) : exec .fire s = .next (takeFire s) := rfl
  have hcyclic (s : State) : exec .cyclicFire s = .next (takeCyclicFire s) := rfl
  rw [execAll_append (execAll_replicate hfire _ s), execAll_replicate hcyclic, ← drainFires_eq, drainStarts,
    takeDueCyclic_eq]

/-- The pulse ends of the action unit, one row for each place (R103). -/
theorem execAll_pulses (s : State) :
    execAll ((List.range 48).map .pulseEnd) s = .next ((List.range 48).foldl (fun s i => takePulseEnd i s) s) :=
  execAll_map (fun _ _ => rfl) _ s

/-- The events of the port, the lines and the own frame, one row for each (R64, R149, R181). -/
theorem execAll_drainLines (s : State) :
    execAll (.answerReady true :: (List.range 8).map (fun c => .edgeAccepted c false) ++
      [.holdLineAccepted, .frameSentWhole]) s = .next (drainLines s) := by
  have hedge (s : State) (c : Nat) : exec (.edgeAccepted c false) s = .next (takeEdge c false s) := rfl
  have hedges : execAll (.answerReady true :: (List.range 8).map (fun c => .edgeAccepted c false)) s =
      .next ((List.range 8).foldl (fun s c => takeEdge c false s) (takeAnswerReady true s)) :=
    (execAll_cons rfl).trans (execAll_map hedge _ _)
  exact (execAll_append hedges).trans rfl

theorem drainPulseEnds_eq (s : State) :
    drainPulseEnds s =
      drainCyclicEnds ((List.range 48).foldl (fun s i => takePulseEnd i s) s).cycle.pulseEnds.length
        ((List.range 48).foldl (fun s i => takePulseEnd i s) s) := rfl

/-- The events of a step from the pulse ends of the cycle unit on to the own send instant, one row for each. -/
theorem execAll_afterPulses (u : State) :
    ∃ (places : List Nat) (rounds fires cyclicFires : Nat), u.oldestFirst places ∧
      execAll (places.map .cyclicPulseEnd ++ [.listenTimerExpiry] ++ List.replicate rounds (.roundEnd defaultOrder) ++
        (List.range 48).map .expiry ++ (List.replicate fires .fire ++ List.replicate cyclicFires .cyclicFire) ++
        [.ownSendInstant]) u =
      .next (takeSendInstant (drainActions (drainRoundEnds (drainCyclicEnds u.cycle.pulseEnds.length u)))) := by
  obtain ⟨places, holdest, hends⟩ := execAll_drainCyclicEnds u
  have hexpiry (s : State) (i : Nat) : exec (.expiry i) s = .next (takeExpiry i s) := rfl
  have hlistenRow (s : State) : execAll [.listenTimerExpiry] s = .next (takeListenExpiry s) := rfl
  have hsendRow (s : State) : execAll [.ownSendInstant] s = .next (takeSendInstant s) := rfl
  have hlisten := (execAll_append hends).trans (hlistenRow _)
  have hrounds := (execAll_append hlisten).trans (execAll_takeRoundEnds _)
  have hexpiries := (execAll_append hrounds).trans (execAll_map hexpiry (List.range 48) _)
  have hstarts := (execAll_append hexpiries).trans (execAll_drainStarts _)
  exact ⟨places, _, _, _, holdest, (execAll_append hstarts).trans (hsendRow _)⟩

/-- The capture of a READ_TIME's values changes the answer that stands in the port, at most (R15). -/
theorem captureTime_eq (w : State) :
    captureTime w =
      { w with port := { w.port with timeDue := false, transaction := (captureTime w).port.transaction } } ∧
      (w.port.timeDue = false → (captureTime w).port.transaction = w.port.transaction) := by
  cases h : w.port.timeDue with
  | false =>
    have hport : w.port = { w.port with timeDue := false } := by rw [← h]
    rw [captureTime_none h]
    exact ⟨congrArg (fun p => { w with port := p }) hport, fun _ => rfl⟩
  | true => exact ⟨by rw [captureTime, if_pos h]; rfl, fun hf => absurd hf (by decide)⟩

/-- The failure of the reception cut short is FRAME_FAILED (R47). -/
theorem drainCut_cut {s : State} {r : Reception} (h : s.roundCtl.receiver = .cutShort r) :
    takeFrameFailed s = drainCut s := by
  simp [drainCut, h]

/-- Where nothing that brings the drive lines something is due they are quiet. -/
theorem drivesQuiet_of_ends {s : State} (hline : ¬ s.isDue .line) (hround : ¬ s.isDue .round)
    (hpulse : ∀ i, ¬ s.isDue (.pulse i)) (hfire : ∀ i, ¬ s.isDue (.fire i)) (hcyclicFire : ∀ d, ¬ s.isDue (.cyclicFire d))
    (hcyclicEnd : ∀ e, ¬ s.isDue (.cyclicEnd e)) : s.drivesQuiet :=
  ⟨Bool.eq_false_iff.2 hline, Bool.eq_false_iff.2 fun h => hround (isDue_round.2 h),
    fun i e he => ⟨fun d hst hr => hfire i ⟨e, he, d, hst, hr⟩,
      fun l w ends since c heff hst hsince hr => hpulse i ⟨e, he, ⟨l, w, heff⟩, ends, since, c, hst, hsince, hr⟩⟩,
    fun d hd hr => hcyclicFire d ⟨hd, hr⟩, fun e he hsince hr => hcyclicEnd e ⟨he, hsince, hr⟩⟩

/-- Settles O30: the stages of the step leave nothing due, and each is the fold of its rows. -/
theorem dueEventsTaken : Obligations.DueEventsTaken := by
  intro s hs t due running
  obtain ⟨hreset, hends⟩ : t.inReset = s.inReset ∧ ∀ k, ¬ t.isDue k := drainDue_ends hs
  have hsettled : t.settledStep := drainDue_none hends
  have hrunning : running ↔ roundsRun t.timebase.sync = true := (roundsRun_iff _).symm
  obtain ⟨hline, hround, hpulse, hfire, hcyclicFire, hcyclicEnd⟩ := drainDrives_ends hs
  refine ⟨fun at' left ht => ?answer, ?capture, fun c cfg ch hcfg hch => ?edge, ?line, fun f hf => ?frame,
    fun i e he => ⟨fun d hst hr => ?fire, fun l w ends since c heff hst hsince hr => ?pulse,
      fun since x hst hx hsince hr => ?expiry⟩, fun d hd hr => ?cyclicFire, fun e he hsince hr => ?cyclicEnd,
    fun hsync x hx hr => ?listen, fun hrun hr => ?round, fun hrun htaken hr => ?send, fun r hr => ?cut, hsettled,
    drivesQuiet_of_ends hline hround hpulse hfire hcyclicFire hcyclicEnd, fun lines hold hin => ?period, ?rows⟩
  case' answer | capture | edge | line | frame | fire | pulse | expiry | cyclicFire | cyclicEnd | listen | round | send |
      cut => clear_value t
  case answer => exact Nat.lt_of_not_le fun hle => hends .answer ⟨at', left, ht, hle⟩
  case capture => exact Bool.eq_false_iff.2 (hends .capture)
  case edge =>
    exact Bool.eq_false_iff.2 fun hdue => hends (.edge c) ⟨(Option.any_eq_true _ _).2 ⟨ch, hch, hdue⟩, cfg, hcfg⟩
  case line => exact Bool.eq_false_iff.2 (hends .line)
  case frame =>
    refine Nat.lt_of_not_le fun hle => hends .frame ⟨f.begun + framePeriods t.profile f.octets.length, ?_, hle⟩
    simp [State.dueView, hf]
  case fire => exact hends (.fire i) ⟨e, he, d, hst, hr⟩
  case pulse => exact hends (.pulse i) ⟨e, he, ⟨l, w, heff⟩, ends, since, c, hst, hsince, hr⟩
  case expiry => exact hends (.expiry i) ⟨e, he, since, x, hst, hx, hsince, hr⟩
  case cyclicFire => exact hends (.cyclicFire d) ⟨hd, hr⟩
  case cyclicEnd => exact hends (.cyclicEnd e) ⟨he, hsince, hr⟩
  case listen => exact hends .listen ⟨hsync, x, hx, hr⟩
  case round => exact hends .round ⟨hrunning.1 hrun, hr⟩
  case send => exact hends .send ⟨hrunning.1 hrun, htaken, hr⟩
  case cut => exact hends .cut ⟨r, hr⟩
  case period =>
    have hperiod (u : State) (hu : u.inReset = false) :
        exec (.referencePeriod lines hold) u = .next (newStep lines hold (drainDue u)) :=
      congrArg Host.Outcome.next (by rw [takePeriod, if_neg (by simp [hu])])
    have hfixed : drainDue t = drainDue s := hsettled
    rw [hperiod s hin, hperiod t (hreset.trans hin), hfixed]
  case rows =>
    intro lines pulses expiries starts
    refine ⟨?due, ?drives⟩
    case due =>
      have hu := (execAll_append (execAll_drainLines s)).trans (execAll_pulses (drainLines s))
      obtain ⟨places, rounds, fires, cyclicFires, holdest, hv⟩ := execAll_afterPulses
        ((List.range 48).foldl (fun s i => takePulseEnd i s) (drainLines s))
      rw [← drainPulseEnds_eq] at hv
      have ht : t = captureTime (drainCut (takeSendInstant (drainActions (drainRoundEnds (drainPulseEnds
        (drainLines s)))))) := rfl
      rw [ht]
      obtain ⟨heq, hkept⟩ := captureTime_eq (drainCut (takeSendInstant (drainActions (drainRoundEnds
        (drainPulseEnds (drainLines s))))))
      refine ⟨places, rounds, fires, cyclicFires, _, _, _, hu, holdest, hv, ?_, ?_, heq, hkept⟩
      · rintro ⟨r, hr⟩
        exact congrArg Host.Outcome.next (drainCut_cut hr)
      · exact fun hnot => drainCut_none (mt isDue_cut.1 (not_exists.2 hnot))
    case drives =>
      have hu : execAll (.holdLineAccepted :: pulses) s = _ := (execAll_cons rfl).trans (execAll_pulses (takeHoldLine s))
      obtain ⟨places, holdest, hplaces⟩ := execAll_drainCyclicEnds
        ((List.range 48).foldl (fun s i => takePulseEnd i s) (takeHoldLine s))
      have hrounds := (execAll_append hplaces).trans (execAll_takeRoundEnds (drainPulseEnds (takeHoldLine s)))
      exact ⟨places, _, _, _, _, hu, holdest, (execAll_append hrounds).trans (execAll_drainStarts _)⟩

end Sys2Proof.Machine
end

section
/-! SUPPORT. The send queue, the armed list and the outbound table: what every operation keeps of their bounds and of the
distinctness of their tags (R42, R93, R164). -/

namespace Sys2Proof.Machine

variable {s t : State}

/-! ### What is kept -/

/-- The send queue keeps its bounds, and owners and tags are distinct in the armed list and in the outbound table (R42, R93,
R164). -/
def State.tidy (s : State) : Prop := s.queueBounded ∧ s.ownersDistinct ∧ s.outTagsDistinct

/-- Tidiness is read from the send queue, the armed list and the outbound table alone. -/
theorem State.tidy.congr (h : s.tidy) (hqueue : t.roundCtl.queue = s.roundCtl.queue := by simp)
    (hentries : t.action.entries = s.action.entries := by simp)
    (htable : t.request.table = s.request.table := by simp) : t.tidy := by
  obtain ⟨hq, ho, hr⟩ := h
  refine ⟨?_, ?_, ?_⟩
  · simpa only [State.queueBounded, hqueue] using hq
  · simpa only [State.ownersDistinct, entryAt, hentries] using ho
  · simpa only [State.outTagsDistinct, recordOf, htable] using hr

theorem tidy_ite {p : Prop} [Decidable p] (hs : s.tidy) (ht : t.tidy) : (if p then s else t).tidy := by
  split <;> assumption

theorem tidy_reset : State.reset.tidy := by
  refine ⟨⟨by decide, by decide⟩, fun i j e f he => ?_, fun i j r q hr => ?_⟩
  · have hi := lt_of_entryAt he
    simp [entryAt, State.reset, ActionUnit.reset, hi] at he
  · have hi := lt_of_recordOf hr
    simp [recordOf, State.reset, RequestUnit.reset, hi] at hr

/-! ### The send queue (R42) -/

/-- A send queue that holds no more than a bounded one is bounded. -/
theorem tidy_setQueue_sublist {q : List Item} (hq : q.Sublist s.roundCtl.queue) (h : s.tidy) : (setQueue q s).tidy := by
  obtain ⟨⟨hall, hopen⟩, hrest⟩ := h
  exact ⟨⟨hq.length_le.trans hall, (hq.filter _).length_le.trans hopen⟩, hrest⟩

/-- An item that the send queue takes keeps its bounds (R42). -/
theorem tidy_setQueue_offer {i : Item} (hi : queueTakes s.roundCtl.queue i = true) (h : s.tidy) :
    (setQueue (s.roundCtl.queue ++ [i]) s).tidy := by
  obtain ⟨⟨hall, hopen⟩, hrest⟩ := h
  have hfilter := s.roundCtl.queue.length_filter_le fun i => !i.isReport
  refine ⟨?_, hrest⟩
  unfold queueTakes Config.queuePlaces Config.queueOpenPlaces at hi
  cases hr : i.isReport <;> simp [hr, State.queueBounded] at hi hopen ⊢ <;> omega

@[simp] theorem tidy_raise (c : Cause) (h : s.tidy) : (raise c s).tidy := h.congr

@[simp] theorem tidy_offerReport (r : ReportItem) (h : s.tidy) : (offerReport r s).tidy := by
  unfold offerReport
  split
  · next hi => exact tidy_setQueue_offer hi h
  · exact tidy_raise _ (h.congr)

@[simp] theorem tidy_offerMark (c : Nat) (m : Mark) (h : s.tidy) : (offerMark c m s).tidy := by
  unfold offerMark
  split
  · next hi => exact tidy_setQueue_offer hi h
  · exact tidy_raise _ (h.congr)

/-- An ARM or CANCEL item that is taken joins the tail of the send queue (R42). -/
theorem offerRequest_eq_some {i : Item} : offerRequest i s = some t ↔
    queueTakes s.roundCtl.queue i = true ∧ t = setQueue (s.roundCtl.queue ++ [i]) s := by
  unfold offerRequest
  split
  · next hi => simp [hi, eq_comm]
  · next hi => simp [hi]

theorem tidy_offerRequest {i : Item} (ht : offerRequest i s = some t) (h : s.tidy) : t.tidy := by
  obtain ⟨hi, rfl⟩ := offerRequest_eq_some.1 ht
  exact tidy_setQueue_offer hi h

/-- An offer leaves the outbound table alone. -/
theorem recordOf_offerRequest {i : Item} (ht : offerRequest i s = some t) (place : Nat) :
    recordOf t place = recordOf s place := by
  obtain ⟨-, rfl⟩ := offerRequest_eq_some.1 ht
  rfl

theorem tidy_withdrawArm {target : Nat} {tag : Octet} (ht : withdrawArm target tag s = some t) (h : s.tidy) : t.tidy := by
  simp only [withdrawArm] at ht
  split at ht
  · cases ht; exact tidy_setQueue_sublist (List.eraseIdx_sublist _ _) h
  · cases ht

@[simp] theorem tidy_purgeQueue (h : s.tidy) : (purgeQueue s).tidy :=
  (tidy_setQueue_sublist (q := s.roundCtl.queue.filter Item.isReport) List.filter_sublist h).congr rfl rfl rfl

/-! ### Tags that are free (R94, R165) -/

/-- The tag found is not in use where any is not (R94, R165). -/
theorem firstTag_unused {used : Octet → Bool} (counter : Octet) (hfree : ∃ t, used t = false) :
    used (firstTag counter used) = false := by
  obtain ⟨t, ht⟩ := hfree
  have hmem : t ∈ (List.range 256).map fun k => counter + BitVec.ofNat 8 k :=
    List.mem_map.2 ⟨(t - counter).toNat, List.mem_range.2 (t - counter).isLt, by
      rw [BitVec.ofNat_toNat, BitVec.setWidth_eq, BitVec.add_comm, BitVec.sub_add_cancel]⟩
  unfold firstTag
  cases hfind : ((List.range 256).map fun k => counter + BitVec.ofNat 8 k).find? fun t => !used t with
  | none => simpa [ht] using List.find?_eq_none.1 hfind t hmem
  | some u => simpa using List.find?_some hfind

/-- Fewer places than tags, each with one tag at most, leave a tag free. -/
theorem exists_tag_unused {n : Nat} (hn : n < 256) (used : Octet → Bool) (tagAt : Nat → Option Octet)
    (hused : ∀ t, used t = true → ∃ i, i < n ∧ tagAt i = some t) : ∃ t, used t = false := by
  by_contra hall
  have hall : ∀ t, ∃ i : Fin n, tagAt i = some t := fun t => by
    obtain ⟨i, hi, ht⟩ := hused t (by simpa using not_exists.1 hall t)
    exact ⟨⟨i, hi⟩, ht⟩
  choose place hplace using hall
  have hinj : Function.Injective fun k : Fin 256 => place (BitVec.ofFin k) := fun k l hkl =>
    BitVec.ofFin.inj (Option.some.inj
      ((hplace _).symm.trans ((congrArg (fun i : Fin n => tagAt i) hkl).trans (hplace _))))
  have hcard := Fintype.card_le_of_injective _ hinj
  simp only [Fintype.card_fin] at hcard
  omega

/-! ### The armed list (R93) -/

/-- The place i may hold an entry of this owner and tag: no other place does (R93). -/
def State.mayHold (s : State) (i owner : Nat) (tag : Octet) : Prop :=
  ∀ j f, entryAt s j = some f → f.owner = owner → f.tag = tag → j = i

theorem State.tidy.mayHold (h : s.tidy) {i : Nat} {e : Entry} (he : entryAt s i = some e) :
    s.mayHold i e.owner e.tag := fun _ _ hj howner htag => h.2.1 _ _ _ _ hj he howner htag

theorem mayHold_congr {i owner : Nat} {tag : Octet} (h : s.mayHold i owner tag) (ht : t.action = s.action) :
    t.mayHold i owner tag := fun j f hj => h j f ((entryAt_congr ht j).symm.trans hj)

@[simp] theorem tidy_setEntry_none (i : Nat) (h : s.tidy) : (setEntry i none s).tidy := by
  obtain ⟨hq, ho, hr⟩ := h
  refine ⟨hq, fun j k e f he hf => ?_, hr⟩
  rw [entryAt_setEntry] at he hf
  split at he
  · cases he
  · split at hf
    · cases hf
    · exact ho j k e f he hf

theorem tidy_setEntry_some {i : Nat} {e : Entry} (hi : s.mayHold i e.owner e.tag) (h : s.tidy) :
    (setEntry i (some e) s).tidy := by
  obtain ⟨hq, ho, hr⟩ := h
  refine ⟨hq, fun j k d f hd hf howner htag => ?_, hr⟩
  rw [entryAt_setEntry] at hd hf
  split at hd
  · next hj =>
    cases hd
    split at hf
    · next hk => exact hj.1.trans hk.1.symm
    · exact hj.1.trans (hi k f hf howner.symm htag.symm).symm
  · split at hf
    · next hk => cases hf; exact (hi j d hd howner htag).trans hk.1.symm
    · exact ho j k d f hd hf howner htag

/-- An entry may be replaced by one of the same owner and tag. -/
theorem tidy_setEntry_same {i : Nat} {e e' : Entry} (he : entryAt s i = some e) (h : s.tidy)
    (howner : e'.owner = e.owner := by rfl) (htag : e'.tag = e.tag := by rfl) : (setEntry i (some e') s).tidy :=
  tidy_setEntry_some (by rw [howner, htag]; exact h.mayHold he) h

@[simp] theorem tidy_journalReport (r : ReportRecord) (h : s.tidy) : (journalReport r s).tidy := h.congr

@[simp] theorem tidy_endEntry (i : Nat) (code : Octet) (d : Option Word16) (h : s.tidy) : (endEntry i code d s).tidy := by
  unfold endEntry
  split
  · exact h
  · simp only
    split <;> simp [h]

@[simp] theorem tidy_requestLevel (c : Nat) (r : LevelReq) (h : s.tidy) : (requestLevel c r s).tidy := h.congr

theorem tidy_completeFire {i : Nat} {e : Entry} (due : NT) (hi : s.mayHold i e.owner e.tag) (h : s.tidy) :
    (completeFire i e due s).tidy := by
  unfold completeFire
  split
  · exact tidy_endEntry _ _ _ (tidy_setEntry_some hi h)
  · simp only
    split
    · split
      · exact tidy_endEntry _ _ _ (tidy_setEntry_some hi h)
      · exact tidy_setEntry_some hi h
    · exact tidy_setEntry_some hi h

theorem tidy_fireEntry {i : Nat} {e : Entry} (due : NT) (he : entryAt s i = some e) (h : s.tidy) :
    (fireEntry i e due s).tidy := by
  have hi (c : Nat) (r : LevelReq) : (requestLevel c r s).mayHold i e.owner e.tag :=
    mayHold_congr (h.mayHold he) (by simp)
  unfold fireEntry
  split
  · exact tidy_endEntry _ _ _ h
  · simp only
    split
    · exact tidy_completeFire _ (hi _ _) (tidy_requestLevel _ _ h)
    · exact tidy_completeFire _ (hi _ _) (tidy_requestLevel _ _ h)
    · exact tidy_setEntry_some (hi _ _) (tidy_requestLevel _ _ h)

@[simp] theorem tidy_takeFire (h : s.tidy) : (takeFire s).tidy := by
  unfold takeFire
  split
  · exact h
  · next i e due rest hdue =>
    obtain ⟨he, -⟩ := mem_dueFires.1 (hdue ▸ List.mem_cons_self : (i, e, due) ∈ dueFires s)
    exact tidy_fireEntry due he h

theorem tidy_endPulse {i : Nat} {e : Entry} (ends : NT) (c : Bool) (he : entryAt s i = some e) (h : s.tidy) :
    (endPulse i e ends c s).tidy := by
  unfold endPulse
  split
  · exact h
  · exact h
  · simp only
    split
    · exact tidy_endEntry _ _ _ (tidy_requestLevel _ _ h)
    · exact tidy_completeFire _ (mayHold_congr (h.mayHold he) (by simp)) (tidy_requestLevel _ _ h)

@[simp] theorem tidy_takePulseEnd (i : Nat) (h : s.tidy) : (takePulseEnd i s).tidy := by
  unfold takePulseEnd
  split
  · exact h
  · next e he =>
    split
    · split
      · exact tidy_endPulse _ _ he h
      · exact h
    · exact h
    · exact h

@[simp] theorem tidy_takeExpiry (i : Nat) (h : s.tidy) : (takeExpiry i s).tidy := by
  unfold takeExpiry
  repeat' split
  all_goals simp [h]

@[simp] theorem tidy_matchEntry (m : Mark) (i : Nat) (h : s.tidy) : (matchEntry m i s).tidy := by
  unfold matchEntry
  split
  · exact h
  · next e he =>
    have hset {e' : Entry} (howner : e'.owner = e.owner) (htag : e'.tag = e.tag) : (setEntry i (some e') s).tidy :=
      tidy_setEntry_same he h howner htag
    simp only
    repeat' split
    all_goals simp [h, hset]

@[simp] theorem tidy_takeMark (m : Mark) (h : s.tidy) : (takeMark m s).tidy :=
  foldl_inv (fun _ i => tidy_matchEntry m i) _ s h

/-- A tag of an owner is in use exactly where an entry carries it (R93). -/
theorem ownerTagHeld_iff {owner : Nat} {tag : Octet} :
    ownerTagHeld owner tag s = true ↔ ∃ i e, entryAt s i = some e ∧ e.owner = owner ∧ e.tag = tag := by
  have hmem (i : Nat) : i ∈ entriesWhere (fun e => e.owner == owner && e.tag == tag) s ↔
      ∃ e, entryAt s i = some e ∧ e.owner = owner ∧ e.tag = tag := by
    rw [entriesWhere, mem_placesWhere]
    cases hi : s.action.entries[i]? <;> simp [entryAt, hi, Option.any_eq_true]
  rw [ownerTagHeld, Bool.not_eq_true', List.isEmpty_eq_false_iff_exists_mem]
  exact exists_congr hmem

/-- An arm of an owner's tag that is not in use creates an entry apart from the others (R93, R98). -/
theorem tidy_createEntry {owner : Nat} {tag : Octet} (i c : Nat) (f : ArmFields) (hfree : ownerTagHeld owner tag s = false)
    (h : s.tidy) : (createEntry i owner tag c f s).tidy := by
  have hi : s.mayHold i owner tag := fun j e hj howner htag => by
    have hheld : ownerTagHeld owner tag s = true := ownerTagHeld_iff.2 ⟨j, e, hj, howner, htag⟩
    exact absurd (hheld.symm.trans hfree) (by decide)
  have hset : (setEntry i (some (armedEntry owner tag c f s)) s).tidy := tidy_setEntry_some hi h
  exact hset.congr rfl rfl rfl

/-- A remote arm that is not refused has a tag that its requester does not use (R97). -/
theorem judgeArm_unused {requester : Nat} {tag : Octet} {c : Nat} {f : ArmFields}
    (hjudge : judgeArm (some (requester, tag)) c f s = none) : ownerTagHeld requester tag s = false := by
  unfold judgeArm at hjudge
  split at hjudge
  · cases hjudge
  · cases hheld : ownerTagHeld requester tag s with
    | false => rfl
    | true =>
      simp only [Option.any_some, hheld, if_true] at hjudge
      repeat' split at hjudge
      all_goals cases hjudge

@[simp] theorem tidy_armRemotely (requester : Nat) (tag : Octet) (c : Nat) (f : ArmFields) (h : s.tidy) :
    (armRemotely requester tag c f s).1.tidy := by
  unfold armRemotely
  split
  · exact h
  · next hjudge =>
    split
    · exact h
    · exact tidy_createEntry _ _ _ (judgeArm_unused hjudge) h

/-- The tag of a local arm is not in use: 48 entries leave one of 256 tags free (R94). -/
theorem tidy_armLocally (i c : Nat) (f : ArmFields) (h : s.tidy) : (armLocally i c f s).1.tidy := by
  have hfree : ∃ t, ownerTagHeld s.profile.station t s = false :=
    exists_tag_unused (by decide : 48 < 256) _ (fun i => (entryAt s i).map Entry.tag) fun t ht => by
      obtain ⟨j, e, hj, -, htag⟩ := ownerTagHeld_iff.1 ht
      exact ⟨j, lt_of_entryAt hj, by simp [hj, htag]⟩
  have hcreate := tidy_createEntry i c f (firstTag_unused s.action.localTag hfree) h
  exact hcreate.congr rfl rfl rfl

@[simp] theorem tidy_cancelEntry (i : Nat) (h : s.tidy) : (cancelEntry i s).tidy := by
  unfold cancelEntry
  split
  · exact h
  · next e he =>
    split
    · simp [h]
    · simp [h]
    · exact tidy_setEntry_same he h

@[simp] theorem tidy_takeArmItem (requester : Nat) (tag : Octet) (c : Nat) (f : ArmFields) (h : s.tidy) :
    (takeArmItem requester tag c f s).tidy := tidy_offerReport _ (tidy_armRemotely _ _ _ _ h)

@[simp] theorem tidy_takeCancelItem (requester : Nat) (tag : Octet) (h : s.tidy) :
    (takeCancelItem requester tag s).tidy := by
  unfold takeCancelItem
  split <;> simp [h]

/-! ### The outbound table (R164) -/

/-- What stands at a place after another place or the same one is replaced. -/
theorem recordOf_setRecord (s : State) (i j : Nat) (r : Option OutRecord) :
    recordOf (setRecord i r s) j = if j = i ∧ i < 16 then r else recordOf s j := by
  simp only [recordOf, setRecord, tableUpdate_get]
  by_cases hj : j = i
  · subst hj
    by_cases h : j < 16 <;> simp [h]
  · simp [hj]

/-- A record may take the place i when no other place has its tag (R164). -/
theorem tidy_setRecord_some {i : Nat} {r : OutRecord} (hi : ∀ j q, recordOf s j = some q → q.tag = r.tag → j = i)
    (h : s.tidy) : (setRecord i (some r) s).tidy := by
  obtain ⟨hq, ho, hr⟩ := h
  refine ⟨hq, ho, fun j k p q hp hq htag => ?_⟩
  rw [recordOf_setRecord] at hp hq
  split at hp
  · next hj =>
    cases hp
    split at hq
    · next hk => exact hj.1.trans hk.1.symm
    · exact hj.1.trans (hi k q hq htag.symm).symm
  · split at hq
    · next hk => cases hq; exact (hi j p hp htag).trans hk.1.symm
    · exact hr j k p q hp hq htag

/-- A record may be replaced by one of the same tag. -/
theorem tidy_setRecord_same {i : Nat} {r r' : OutRecord} (hr : recordOf s i = some r) (h : s.tidy)
    (htag : r'.tag = r.tag := by rfl) : (setRecord i (some r') s).tidy :=
  tidy_setRecord_some (fun _ _ hj hq => h.2.2 _ _ _ _ hj hr (hq.trans htag)) h

@[simp] theorem tidy_completeRecord (place : Nat) (code : Octet) (x : Carried) (h : s.tidy) :
    (completeRecord place code x s).tidy := by
  obtain ⟨hq, ho, hr⟩ := h
  have hentry (i : Nat) : entryAt (completeRecord place code x s) i = entryAt s i := entryAt_congr (by simp) i
  refine ⟨by simpa [State.queueBounded] using hq, by simpa [State.ownersDistinct, hentry] using ho, ?_⟩
  intro i j p q hp hq
  rw [recordOf_completeRecord] at hp hq
  split at hp
  · cases hp
  · split at hq
    · cases hq
    · exact hr i j p q hp hq

@[simp] theorem tidy_completeWhere (p : OutRecord → Bool) (code : Octet) (h : s.tidy) : (completeWhere p code s).tidy :=
  foldl_inv (fun _ place => tidy_completeRecord place code Carried.nothing) _ s h

@[simp] theorem tidy_takeArmSent (target : Nat) (tag : Octet) (round : Word16) (h : s.tidy) :
    (takeArmSent target tag round s).tidy := by
  unfold takeArmSent
  split
  · exact h
  · split
    · exact h
    · next r hr =>
      split
      · exact tidy_setRecord_same hr h
      · exact h
      · exact h

@[simp] theorem tidy_writeUnsolicited (station : Nat) (r : ReportItem) (h : s.tidy) :
    (writeUnsolicited station r s).tidy := tidy_journalReport _ (h.congr rfl rfl rfl)

theorem tidy_answerRecord {place : Nat} {rec : OutRecord} (station : Nat) (r : ReportItem)
    (hrec : recordOf s place = some rec) (h : s.tidy) : (answerRecord place rec station r s).tidy := by
  have hset : (setRecord place (some { rec with state := .accepted }) s).tidy := tidy_setRecord_same hrec h
  unfold answerRecord
  repeat' split
  all_goals simp [h, hset]

@[simp] theorem tidy_takeReportItem (station : Nat) (r : ReportItem) (h : s.tidy) : (takeReportItem station r s).tidy := by
  unfold takeReportItem
  split
  · exact h
  · split
    · simp [h]
    · split
      · simp [h]
      · next hrec => exact tidy_answerRecord _ _ hrec h

@[simp] theorem tidy_requestRoundStart (h : s.tidy) : (requestRoundStart s).tidy := by
  unfold requestRoundStart
  split <;> simp [h]

@[simp] theorem tidy_requestFalls (y : Sync) (h : s.tidy) : (requestFalls y s).tidy := by
  unfold requestFalls
  split <;> simp [h, abandonRecords]

/-! ### The hold unit (R152 to R154) -/

@[simp] theorem tidy_holdUpdate (f : HoldUnit → HoldUnit) (h : s.tidy) : (holdUpdate f s).tidy := h.congr

@[simp] theorem tidy_enterHeld (h : s.tidy) : (enterHeld s).tidy := by
  have hforced {f : HoldUnit → HoldUnit} : (forceAll (holdUpdate f s)).tidy := h.congr
  have haction {u : State} (hu : u.tidy) : (actionEntersHeld u).tidy :=
    foldl_inv (fun _ i => tidy_endEntry i Code.blocked none) _ _ (hu.congr rfl rfl rfl)
  have hcycle {u : State} (hu : u.tidy) : (cycleEntersHeld u).tidy := hu.congr
  exact tidy_raise _ (hcycle (haction hforced))

@[simp] theorem tidy_addReason (r : Reason) (h : s.tidy) : (addReason r s).tidy := by
  simp only [addReason]
  split <;> simp [h]

@[simp] theorem tidy_removeReason (r : Reason) (h : s.tidy) : (removeReason r s).tidy := h.congr

@[simp] theorem tidy_holdRoundStart (h : s.tidy) : (holdRoundStart s).tidy := by
  unfold holdRoundStart
  split
  · exact h.congr (by simp) (by simp [leaveHeld, actionLeavesHeld]) (by simp)
  · exact h

@[simp] theorem tidy_holdTakesSync (h : s.tidy) : (holdTakesSync s).tidy := by
  unfold holdTakesSync
  repeat' split
  all_goals simp [h]

@[simp] theorem tidy_takeHoldLine (h : s.tidy) : (takeHoldLine s).tidy := by
  simp only [takeHoldLine]
  repeat' split
  all_goals simp [h]

/-! ### The timebase (R6, R19 to R31) -/

@[simp] theorem tidy_timeUpdate (f : Timebase → Timebase) (h : s.tidy) : (timeUpdate f s).tidy := h.congr

@[simp] theorem tidy_enterSync (y : Sync) (h : s.tidy) : (enterSync y s).tidy :=
  tidy_holdTakesSync (tidy_raise _ (tidy_timeUpdate _ h))

@[simp] theorem tidy_fallToListen (order : RoundOrder) (cause : Option Cause) (h : s.tidy) :
    (fallToListen order cause s).tidy := by
  have hfalls : (raise .syncChange (timebaseFalls s)).tidy := h.congr
  have hpeers {u : State} (hu : u.tidy) : (cycleEntersListen (peersAbsent u)).tidy := hu.congr (by simp [peersAbsent])
  have hpurge {b : Bool} {u : State} (hu : u.tidy) : (if b then purgeQueue u else u).tidy :=
    tidy_ite (tidy_purgeQueue hu) hu
  have hrecords {b : Bool} {u : State} (hu : u.tidy) : (if b then requestFalls s.timebase.sync u else u).tidy :=
    tidy_ite (tidy_requestFalls _ hu) hu
  have hends {b c : Bool} {u : State} (hu : u.tidy) :
      (if b then (if c then u else requestFalls s.timebase.sync u)
        else purgeQueue (if c then u else requestFalls s.timebase.sync u)).tidy :=
    tidy_ite (tidy_ite hu (tidy_requestFalls _ hu)) (tidy_purgeQueue (tidy_ite hu (tidy_requestFalls _ hu)))
  cases cause with
  | none => exact hends (tidy_holdTakesSync (hrecords (hpurge (hpeers hfalls))))
  | some c => exact hends (tidy_holdTakesSync (hrecords (hpurge (hpeers (tidy_raise c hfalls)))))

@[simp] theorem tidy_coldstartFails (order : RoundOrder) (h : s.tidy) : (coldstartFails order s).tidy :=
  tidy_fallToListen _ _ (tidy_timeUpdate _ h)

@[simp] theorem tidy_coldstartDisturbed (h : s.tidy) : (coldstartDisturbed s).tidy := by
  unfold coldstartDisturbed
  split <;> simp [h]

/-- An update of the round controller that keeps the send queue. -/
theorem tidy_roundCtlUpdate {f : RoundCtl → RoundCtl} (hf : (f s.roundCtl).queue = s.roundCtl.queue := by rfl)
    (h : s.tidy) : (roundCtlUpdate f s).tidy := h.congr hf

@[simp] theorem tidy_takeListenExpiry (h : s.tidy) : (takeListenExpiry s).tidy := by
  unfold takeListenExpiry
  split
  · split
    · exact tidy_enterSync _ (tidy_roundCtlUpdate rfl (tidy_timeUpdate _ h))
    · exact h
  all_goals exact h

@[simp] theorem tidy_roundTransition (order : RoundOrder) (c : Int) (refs naming : Nat) (h : s.tidy) :
    (roundTransition order c refs naming s).tidy := by
  have htime {f : Timebase → Timebase} : (timeUpdate f s).tidy := tidy_timeUpdate f h
  have hsynced {u : State} (hu : u.tidy) : (enterSynced u).tidy := tidy_enterSync _ (tidy_timeUpdate _ hu)
  simp only [roundTransition, coldstartRoundEnd, joiningRoundEnd, syncedRoundEnd, holdoverRoundEnd]
  repeat' split
  all_goals simp [h, htime, hsynced]

@[simp] theorem tidy_requestsRoundStart (order : RoundOrder) (lost : List Nat) (h : s.tidy) :
    (requestsRoundStart order lost s).tidy := by
  have hlost {u : State} (hu : u.tidy) : (lost.foldl (fun s k => takePeerLost k s) u).tidy :=
    foldl_inv (fun _ k => tidy_completeWhere (OutRecord.orphanedBy k) Code.orphaned) lost u hu
  unfold requestsRoundStart
  split
  · exact tidy_requestRoundStart (hlost h)
  · exact hlost (tidy_requestRoundStart h)

@[simp] theorem tidy_cycleRoundStart (h : s.tidy) : (cycleRoundStart s).tidy := h.congr

@[simp] theorem tidy_outputsRoundStart (order : ReleaseOrder) (h : s.tidy) : (outputsRoundStart order s).tidy := by
  unfold outputsRoundStart
  split
  · simp [h]
  · exact tidy_holdRoundStart (State.tidy.congr (tidy_cycleRoundStart h))

@[simp] theorem tidy_startRound (order : RoundOrder) (y : Sync) (c : Int) (refs : Nat) (h : s.tidy) :
    (startRound order y c refs s).tidy := by
  have hpeers {u : State} (hu : u.tidy) : (peersRoundStart u).tidy := by
    have hqueue := congrArg RoundCtl.queue (foldl_countSilence_roundCtl (peerNumbers u.profile) u)
    exact hu.congr hqueue
  exact tidy_outputsRoundStart _ (tidy_requestsRoundStart _ _ (hpeers (tidy_timeUpdate _ h)))

@[simp] theorem tidy_takeRoundEnd (order : RoundOrder) (h : s.tidy) : (takeRoundEnd order s).tidy := by
  have hmoves : (roundTransition order (roundCorrection s.timebase) (roundRefs s.timebase) (roundNaming s.timebase)
      (timeUpdate recordRound s)).tidy := tidy_roundTransition _ _ _ _ (tidy_timeUpdate _ h)
  simp only [takeRoundEnd]
  repeat' split
  all_goals simp [h, hmoves]

@[simp] theorem tidy_takeRoundEnds (h : s.tidy) : (takeRoundEnds s).tidy := by
  rw [takeRoundEnds, endRounds_eq]
  exact Function.Iterate.rec State.tidy h (fun _ => tidy_takeRoundEnd _) _

@[simp] theorem tidy_joinFrame (after : Octet) (round : Word16) (rs : NT) (sender : Nat) (observed : NT) (h : s.tidy) :
    (joinFrame after round rs sender observed s).tidy := by
  rw [joinFrame_eq]
  exact h.congr rfl rfl rfl

/-! ### The round controller (R38 to R59) -/

@[simp] theorem tidy_takeSendInstant (h : s.tidy) : (takeSendInstant s).tidy := by
  simp only [takeSendInstant]
  repeat' split
  · exact tidy_roundCtlUpdate rfl (tidy_roundCtlUpdate rfl h)
  · exact tidy_roundCtlUpdate rfl h
  · exact h

@[simp] theorem tidy_takeCollision (h : s.tidy) : (takeCollision s).tidy := by
  unfold takeCollision
  repeat' split
  · exact h
  · exact tidy_coldstartDisturbed (tidy_roundCtlUpdate rfl (tidy_roundCtlUpdate rfl h))
  · exact h

/-- The items of a frame that has been sent leave the send queue (R45). -/
@[simp] theorem tidy_takeFrameSent (h : s.tidy) : (takeFrameSent s).tidy := by
  have hsent (round : Word16) {u : State} (i : Item) (hu : u.tidy) : (reportSent round u i).tidy := by
    unfold reportSent
    split <;> simp [hu]
  unfold takeFrameSent
  split
  · exact h
  · next f _ =>
    split
    · have hended : (endOwnFrame s).tidy := tidy_roundCtlUpdate rfl h
      exact foldl_inv (fun _ i => hsent f.round i) _ _ (tidy_setQueue_sublist (List.drop_sublist _ _) hended)
    · exact h

@[simp] theorem tidy_takeReceptionStart (h : s.tidy) : (takeReceptionStart s).tidy := by
  unfold takeReceptionStart
  split
  · split
    · exact h
    · exact tidy_roundCtlUpdate rfl h
  all_goals exact h

@[simp] theorem tidy_peerUpdate (k : Nat) (f : Peer → Peer) (h : s.tidy) : (peerUpdate k f s).tidy := by
  unfold peerUpdate
  split
  · exact tidy_roundCtlUpdate rfl h
  · exact h

@[simp] theorem tidy_countAttributed (r : Reception) (f : Peer → Peer) (h : s.tidy) : (countAttributed r f s).tidy := by
  have hfree : ({ s with freeCount := s.freeCount + 1 } : State).tidy := h.congr rfl rfl rfl
  simp only [countAttributed]
  repeat' split
  all_goals simp [h, hfree]

@[simp] theorem tidy_takeGarbled (r : Reception) (h : s.tidy) : (takeGarbled r s).tidy :=
  tidy_coldstartDisturbed (tidy_countAttributed _ _ h)

@[simp] theorem tidy_peerHeard (f : Frame) (d : Int) (h : s.tidy) : (peerHeard f d s).tidy := by
  have hheard : (peerUpdate f.sender (Peer.heardFrom f d)
      (roundCtlUpdate (fun r => { r with heardNow := setAdd r.heardNow f.sender }) s)).tidy :=
    tidy_peerUpdate _ _ (tidy_roundCtlUpdate rfl h)
  simp only [peerHeard]
  split <;> simp [hheard]

@[simp] theorem tidy_handItem (sender : Nat) (i : Item) (h : s.tidy) : (handItem sender s i).tidy := by
  have hpeer (m : Mark) : (journalPeerMark m (takeMark m s)).tidy := (tidy_takeMark m h).congr
  unfold handItem
  repeat' split
  all_goals simp [h, hpeer]

/-- Peer upkeep, deviation, swap field and items of a valid frame (R55, R59). -/
@[simp] theorem tidy_takeValid (r : Reception) (f : Frame) (h : s.tidy) : (takeValid r f s).tidy := by
  have hhanded {u : State} (hu : u.tidy) : (handSwapField f (handDeviation r f u)).tidy := hu.congr
  have hitems {u : State} (hu : u.tidy) : (handItems f u).tidy := by
    rw [handItems_eq]
    split
    · exact foldl_inv (fun _ i => tidy_handItem f.sender i) _ u hu
    · exact hu
  exact hitems (hhanded (tidy_peerHeard _ _ h))

@[simp] theorem tidy_takeInRound (r : Reception) (f : Frame) (h : s.tidy) : (takeInRound r f s).tidy := by
  unfold takeInRound
  repeat' split
  all_goals simp [h]

@[simp] theorem tidy_takeChecked (after : Octet) (r : Reception) (f : Frame) (h : s.tidy) :
    (takeChecked after r f s).tidy := by
  have hlisten : (takeInListen after r f s).tidy := by
    unfold takeInListen
    split <;> simp [h]
  have hjoining : (joiningState r s).tidy := by
    rw [joiningState_eq]
    exact h.congr rfl rfl rfl
  have hjoin : (takeForJoining after r f s).tidy := tidy_joinFrame _ _ _ _ _ (tidy_peerHeard _ _ hjoining)
  unfold takeChecked
  repeat' split
  all_goals simp [h, hlisten, hjoin]

@[simp] theorem tidy_endReception (h : s.tidy) : (endReception s).tidy := tidy_roundCtlUpdate rfl h

@[simp] theorem tidy_takeComplete (octets : List Octet) (after : Octet) (r : Reception) (h : s.tidy) :
    (takeComplete octets after r s).tidy := by
  have hframe {u : State} (f : Frame) (hu : u.tidy) : (takeFrame after r f u).tidy := by
    have hduplicate {g : RoundCtl → RoundCtl} (hg : (g u.roundCtl).queue = u.roundCtl.queue) :
        (roundCtlUpdate g u).tidy := tidy_roundCtlUpdate hg hu
    unfold takeFrame
    repeat' split
    all_goals simp [hu, hduplicate]
  unfold takeComplete
  split
  · simp [h]
  · exact hframe _ (tidy_endReception h)

@[simp] theorem tidy_takeFrameComplete (octets : List Octet) (after : Octet) (h : s.tidy) :
    (takeFrameComplete octets after s).tidy := by
  unfold takeFrameComplete
  split <;> simp [h]

@[simp] theorem tidy_takeFrameFailed (h : s.tidy) : (takeFrameFailed s).tidy := by
  unfold takeFrameFailed
  split <;> simp [h]

@[simp] theorem tidy_takeLineIdle (h : s.tidy) : (takeLineIdle s).tidy := by
  unfold takeLineIdle
  split
  · exact h
  · split
    · exact tidy_roundCtlUpdate rfl h
    all_goals simp [h]

/-! ### Edges (R64, R66) -/

theorem tidy_deliverMark (g : CaptureCfg) (c : Nat) (b : Bool) (m : Mark) (h : s.tidy) : (deliverMark g c b m s).tidy := by
  have hjournal : (journalLocalMark g.ring m s).tidy := h.congr
  have hpublish {u : State} (hu : u.tidy) : (publishMark g c m u).tidy := by
    unfold publishMark
    split <;> simp [hu]
  have hmatch {u : State} (hu : u.tidy) : (matchMark m u).tidy := by
    unfold matchMark
    split <;> simp [hu]
  simp only [deliverMark]
  split
  · exact hpublish (hmatch hjournal)
  · exact hmatch (hpublish hjournal)

@[simp] theorem tidy_channelUpdate (c : Nat) (f : Channel → Channel) (h : s.tidy) : (channelUpdate c f s).tidy := h.congr

@[simp] theorem tidy_takeEdge (c : Nat) (b : Bool) (h : s.tidy) : (takeEdge c b s).tidy := by
  have hedge (g : CaptureCfg) (ch : Channel) : (takeEdgeOf c g b ch s).tidy := by
    simp only [takeEdgeOf]
    split
    · simp [h]
    · split
      · simp [h]
      · exact tidy_deliverMark _ _ _ _ (tidy_channelUpdate _ _ (tidy_channelUpdate _ _ h))
  unfold takeEdge
  repeat' split
  all_goals simp [h, hedge]

/-! ### The step (R1, R4) -/

theorem tidy_drainCyclicEnds (n : Nat) (h : s.tidy) : (drainCyclicEnds n s).tidy := by
  induction n generalizing s with
  | zero => exact h
  | succ n ih =>
    unfold drainCyclicEnds
    split
    · exact h
    · exact ih h.congr

theorem tidy_drainLines (h : s.tidy) : (drainLines s).tidy := by
  have hanswer : (takeAnswerReady true s).tidy := h.congr
  have hedges : ((List.range 8).foldl (fun s c => takeEdge c false s) (takeAnswerReady true s)).tidy :=
    foldl_inv (fun _ c => tidy_takeEdge c false) _ _ hanswer
  simp only [drainLines]
  exact tidy_takeFrameSent (tidy_takeHoldLine hedges)

theorem tidy_drainPulseEnds (h : s.tidy) : (drainPulseEnds s).tidy :=
  tidy_drainCyclicEnds _ (foldl_inv (fun _ i => tidy_takePulseEnd i) _ s h)

theorem tidy_drainActions (h : s.tidy) : (drainActions s).tidy := by
  have hfires {u : State} (n : Nat) (hu : u.tidy) : (drainFires n u).tidy := by
    rw [drainFires_eq]
    exact Function.Iterate.rec State.tidy hu (fun _ => tidy_takeFire) n
  have hcyclic {u : State} (hu : u.tidy) : (takeDueCyclic u).tidy := hu.congr
  exact hcyclic (hfires _ (foldl_inv (fun _ i => tidy_takeExpiry i) _ s h))

theorem tidy_drainDue (h : s.tidy) : (drainDue s).tidy := by
  have hcut {u : State} (hu : u.tidy) : (drainCut u).tidy := by
    unfold drainCut
    split <;> simp [hu]
  have hrounds {u : State} (hu : u.tidy) : (drainRoundEnds u).tidy := tidy_takeRoundEnds (tidy_takeListenExpiry hu)
  have hcapture {u : State} (hu : u.tidy) : (captureTime u).tidy := hu.congr
  exact hcapture (hcut (tidy_takeSendInstant (tidy_drainActions (hrounds (tidy_drainPulseEnds (tidy_drainLines h))))))

theorem tidy_newStep (lines : Octet) (hold : Level) (h : s.tidy) : (newStep lines hold s).tidy := by
  rw [newStep_frame]
  exact h.congr rfl rfl rfl

theorem tidy_takePeriod (lines : Octet) (hold : Level) (h : s.tidy) : (takePeriod lines hold s).tidy := by
  unfold takePeriod
  split
  · exact h.congr
  · exact tidy_newStep _ _ (tidy_drainDue h)

theorem tidy_takeAdjusted (lines : Octet) (hold : Level) (h : s.tidy) : (takeAdjusted lines hold s).tidy := by
  unfold takeAdjusted
  repeat' split
  · exact h
  · exact tidy_newStep _ _ (tidy_drainDue h)
  · exact h

/-! ### The resets and the port (R181 to R187, R197) -/

theorem tidy_resetBlocks (s : State) : (resetBlocks s).tidy := tidy_reset.congr rfl rfl rfl

@[simp] theorem tidy_portUpdate (f : Port → Port) (h : s.tidy) : (portUpdate f s).tidy := h.congr

theorem tidy_takeReset (s : State) : (takeReset s).tidy := tidy_portUpdate _ (tidy_resetBlocks s)

theorem tidy_takeSelFall (h : s.tidy) : (takeSelFall s).tidy := by
  simp only [takeSelFall]
  repeat' split
  all_goals exact h.congr rfl rfl rfl

theorem tidy_takeSelRise (h : s.tidy) : (takeSelRise s).tidy := by
  simp only [takeSelRise]
  repeat' split
  · exact h.congr rfl rfl rfl
  · exact tidy_takeReset _
  · exact h.congr rfl rfl rfl
  · exact h

@[simp] theorem tidy_startStation (os : List Octet) (h : s.tidy) : (startStation os s).tidy := by
  have hchannels {u : State} (hu : u.tidy) : ((List.range 8).foldl startChannel u).tidy := hu.congr
  have hhold {u : State} (hu : u.tidy) : (startHold u).tidy := hu.congr
  simp only [startStation]
  refine tidy_enterSync _ (tidy_timeUpdate _ (hhold (hchannels ?_)))
  exact h.congr rfl rfl rfl

/-- ARM creates an entry of a free tag (R94, R98). -/
theorem tidy_takeArm (c : Nat) (f : ArmFields) (h : s.tidy) : (takeArm c f s).1.tidy := by
  unfold takeArm
  repeat' split
  · exact h
  · exact h
  · exact h
  · next i _ _ _ _ harm =>
    have hlocal := tidy_armLocally i c f h
    rw [harm] at hlocal
    exact hlocal

/-- The tag of an outbound record that is to be made is not in use: 16 records leave one of 256 tags free (R165). -/
theorem outTag_unused {j : Nat} {q : OutRecord} (hq : recordOf s j = some q) :
    q.tag ≠ firstTag s.request.tagCounter fun t => !(recordsWhere (fun r => r.tag == t) s).isEmpty := by
  have hused (t : Octet) : (!(recordsWhere (fun r => r.tag == t) s).isEmpty) = true ↔
      ∃ i r, recordOf s i = some r ∧ r.tag = t := by
    rw [Bool.not_eq_true', List.isEmpty_eq_false_iff_exists_mem]
    simp [mem_recordsWhere]
  have hfree : ∃ t, (!(recordsWhere (fun r => r.tag == t) s).isEmpty) = false :=
    exists_tag_unused (by decide : 16 < 256) _ (fun i => (recordOf s i).map OutRecord.tag) fun t ht => by
      obtain ⟨i, r, hr, htag⟩ := (hused t).1 ht
      exact ⟨i, lt_of_recordOf hr, by simp [hr, htag]⟩
  intro htag
  exact absurd ((hused _).2 ⟨j, q, hq, htag⟩) (Bool.eq_false_iff.1 (firstTag_unused _ hfree))

/-- ARM_REMOTE makes a record of a free tag (R164, R165). -/
theorem tidy_takeArmRemote (target c : Nat) (f : ArmFields) (h : s.tidy) : (takeArmRemote target c f s).1.tidy := by
  simp only [takeArmRemote]
  split
  · exact h
  · split
    · exact h
    · split
      · exact h
      · split
        · exact h
        · next s1 hoffer =>
          refine State.tidy.congr (tidy_setRecord_some (fun j q hq htag => ?_) (tidy_offerRequest hoffer h)) rfl rfl rfl
          rw [recordOf_offerRequest hoffer] at hq
          exact absurd htag (outTag_unused hq)

/-- CANCEL_REMOTE keeps the tag of the record that it finds (R173). -/
theorem tidy_takeCancelRemote (tag : Octet) (h : s.tidy) : (takeCancelRemote tag s).1.tidy := by
  have hoffer {place : Nat} {r : OutRecord} (hr : recordOf s place = some r) : (offerCancel place r s).1.tidy := by
    unfold offerCancel
    split
    · exact h
    · next s1 hs1 =>
      exact tidy_setRecord_same ((recordOf_offerRequest hs1 place).trans hr) (tidy_offerRequest hs1 h)
  unfold takeCancelRemote
  split
  · exact h
  · split
    · exact h
    · split
      · exact h
      · next r hr =>
        unfold cancelRecord
        split
        · exact h
        · split
          · split
            · next hwithdraw => exact tidy_completeRecord _ _ _ (tidy_withdrawArm hwithdraw h)
            · exact hoffer hr
          · exact hoffer hr
          · exact hoffer hr

/-- The owner of a command keeps the queue and the tables tidy (R181). -/
theorem tidy_takeCommand (cmd : Cmd) (ops : List Octet) (h : s.tidy) : (takeCommand cmd ops s).1.tidy := by
  cases cmd
  case start =>
    simp only [takeCommand, takeStart]
    split <;> simp [h]
  case arm => exact tidy_takeArm _ _ h
  case armRemote => exact tidy_takeArmRemote _ _ _ h
  case cancelRemote => exact tidy_takeCancelRemote _ h
  case cancel =>
    simp only [takeCommand, takeCancel]
    repeat' split
    all_goals simp [h]
  case proposeSwap =>
    have hpropose (round : Word16) : (propose round s).tidy := h.congr
    simp only [takeCommand, takeProposeSwap]
    repeat' split
    all_goals simp [h, hpropose]
  case hold =>
    simp only [takeCommand, takeHold]
    split <;> simp [h]
  case release =>
    simp only [takeCommand, takeRelease]
    repeat' split
    all_goals simp [h]
  all_goals
    simp only [takeCommand, takeLoadProfile, takeStatus, takeReadTime, takeReadPeer, takeReadChannel, takeReadProfile,
      takeReadEntry, takeReadOutbound, takeStageEntry, takeClearStaged, takeMarkReady, takeReadBank, takeRingStatus,
      takeReadRing, takeReleaseRing, takeReadNotices, takeAckNotices, takeSetNoticeMask, takeSoftReset]
    repeat' split
  all_goals exact h.congr rfl rfl rfl

theorem tidy_takeOperands (cmd : Cmd) (ops : List Octet) (h : s.tidy) : (takeOperands cmd ops s).tidy := by
  unfold takeOperands
  split
  · exact tidy_portUpdate _ (tidy_takeCommand _ _ h)
  · exact tidy_portUpdate _ h

theorem tidy_takeCommandOctet (o : Octet) (h : s.tidy) : (takeCommandOctet o s).tidy := by
  unfold takeCommandOctet
  split
  · exact tidy_takeOperands _ _ h
  · exact tidy_portUpdate _ h

theorem tidy_takePortOctet (o : Octet) (h : s.tidy) : (takePortOctet o s).tidy := by
  unfold takePortOctet
  split
  · exact h
  · exact h
  · exact tidy_takeCommandOctet _ h
  · exact tidy_takeOperands _ _ h
  · exact tidy_portUpdate _ h
  · exact tidy_portUpdate _ h

/-- The row of a command, whatever transaction it finds (R181; assumption 5). -/
theorem tidy_portCommand (cmd : Cmd) (ops : List Octet) (h : s.tidy) : (portCommand cmd ops s).tidy := by
  have hfresh : (freshTransaction s).tidy := tidy_takeSelFall (tidy_takeSelRise h)
  have hopen : (openFor cmd ops s).tidy := by
    unfold openFor
    repeat' split
    all_goals simp [h, hfresh]
  unfold portCommand
  split
  · exact h
  · exact tidy_takeOperands _ _ hopen

theorem tidy_portUnknown (o : Octet) (h : s.tidy) : (portUnknown o s).tidy := by
  have hfresh : (takeCommandOctet o (freshTransaction s)).tidy :=
    tidy_takeCommandOctet _ (tidy_takeSelFall (tidy_takeSelRise h))
  unfold portUnknown
  split
  · exact h
  · split
    · exact tidy_takeCommandOctet _ h
    all_goals exact hfresh

end Sys2Proof.Machine
end

section
/-! SETTLED. The send queue stays bounded, and owners and tags stay distinct (O58). -/

namespace Sys2Proof.Machine

/-- Every command keeps the queue and the tables tidy. -/
theorem tidy_exec {s t : State} (c : Instr) (hexec : exec c s = .next t) (h : s.tidy) : t.tidy := by
  cases c <;> obtain rfl := Host.Outcome.next.inj hexec
  case reset => exact tidy_takeReset _
  case adjustedStep => exact tidy_takeAdjusted _ _ h
  case listenTimerExpiry => exact tidy_takeListenExpiry h
  case roundEnd => exact tidy_takeRoundEnd _ h
  case ownSendInstant => exact tidy_takeSendInstant h
  case collision => exact tidy_takeCollision h
  case frameSentWhole => exact tidy_takeFrameSent h
  case frameComplete => exact tidy_takeFrameComplete _ _ h
  case frameFailed => exact tidy_takeFrameFailed h
  case edgeAccepted => exact tidy_takeEdge _ _ h
  case holdLineAccepted => exact tidy_takeHoldLine h
  case fire => exact tidy_takeFire h
  case pulseEnd => exact tidy_takePulseEnd _ h
  case expiry => exact tidy_takeExpiry _ h
  case cyclicFire => exact h.congr
  case cyclicPulseEnd => exact h.congr
  case transactionStart => exact tidy_takeSelFall h
  case transactionEnd => exact tidy_takeSelRise h
  case answerReady => exact h.congr
  case unknownCommand => exact tidy_portUnknown _ h
  case referencePeriod => exact tidy_takePeriod _ _ h
  case receptionStart => exact tidy_takeReceptionStart h
  case lineIdle => exact tidy_takeLineIdle h
  case resetAsserted => exact (tidy_resetBlocks s).congr rfl rfl rfl
  case portOctet => exact tidy_takePortOctet _ h
  all_goals exact tidy_portCommand _ _ h

/-- Settles O58: each command keeps the send queue, the armed list and the outbound table tidy, by the rules of the
operations that it is made of. -/
theorem queueAndTagsKept : Obligations.QueueAndTagsKept := by
  intro s t hstep hqueue howners htags
  have h : s.tidy := ⟨hqueue, howners, htags⟩
  unfold step at hstep
  split at hstep
  · cases hstep; exact h
  · exact tidy_exec _ hstep (h.congr rfl rfl rfl)

end Sys2Proof.Machine
end

section
/-! SUPPORT. What an offer of a mark and the hand-over of a record to a ring do (R42, R70, R80, R82, R83). -/

namespace Sys2Proof.Machine

/-! ### Offers (R42, R70) -/

/-- The places open to items that are no REPORT items (R42). -/
theorem queueTakes_open {q : List Item} {i : Item} (hi : i.isReport = false) : queueTakes q i = true ↔ q.length < 28 := by
  rw [queueTakes, if_neg (by simp [hi])]
  exact decide_eq_true_iff

theorem mask_sendOverflow : Cause.mask .sendOverflow = 0x800 := by decide

theorem offerMark_taken {s : State} (c : Nat) (m : Mark) (h : s.roundCtl.queue.length < 28) :
    offerMark c m s = setQueue (s.roundCtl.queue ++ [.mark m]) s :=
  if_pos ((queueTakes_open (by rfl)).2 h)

/-- A mark that is refused is a publish loss of its channel (R70). -/
theorem offerMark_refused {s : State} (c : Nat) (m : Mark) (h : 28 ≤ s.roundCtl.queue.length) :
    offerMark c m s =
      raise .sendOverflow (channelUpdate c (fun ch => { ch with publishLoss := satAdd16 ch.publishLoss 1 }) s) :=
  if_neg fun htakes => Nat.not_lt.2 h ((queueTakes_open (by rfl)).1 htakes)

/-! ### The rings that select a mark (R80) -/

theorem ringAt_setRing (k j : Nat) (r : Ring) (s : State) :
    ringAt (setRing k r s) j = if j = k ∧ k < 8 then some r else ringAt s j := by
  simp only [ringAt, setRing, tableUpdate_get]
  by_cases hj : j = k
  · subst hj
    by_cases h : j < 8 <;> simp [h]
  · simp [hj]

/-- A record handed to a ring leaves the definition of every ring as it is (R82, R83). -/
theorem takeRecord_defn (k : Nat) (octets : Nat → List Octet) (s : State) (j : Nat) :
    (ringAt (takeRecord k octets s) j).map Ring.defn = (ringAt s j).map Ring.defn := by
  have hset {r r' : Ring} {u : State} (hr : ringAt s k = some r) (hdefn : r'.defn = r.defn)
      (hu : u.journal.rings = s.journal.rings) : (ringAt (setRing k r' u) j).map Ring.defn = (ringAt s j).map Ring.defn := by
    rw [ringAt_setRing]
    split
    · next hj => simp [hj.1, hr, hdefn]
    · simp [ringAt, hu]
  have hraise (c : Cause) (u : State) : ringAt (raise c u) j = ringAt u j := ringAt_congr (by simp) j
  unfold takeRecord
  split
  · rfl
  · next r hr =>
    split
    · simp only [writeRecord]
      split
      · rw [hraise]; exact hset hr (by rfl) (by rfl)
      · exact hset hr (by rfl) (by rfl)
    · simp only [dropRecord]
      split
      · exact hset hr (by rfl) (by rfl)
      · rw [hraise]; exact hset hr (by rfl) (by rfl)

/-- A PEER_MARKS ring whose sets hold the mark's station and channel selects it (R80). -/
theorem selectsPeerMark_iff {r : Ring} {m : Mark} : selectsPeerMark r m = true ↔
    ∃ stations channels, r.defn.source = .peerMarks stations channels ∧
      stations.getLsbD m.station = true ∧ channels.getLsbD m.channel = true := by
  cases h : r.defn.source <;> simp [selectsPeerMark, h]

/-- Whether ring k selects a mark is judged by its definition. -/
theorem any_selectsPeerMark_congr {a b : Option Ring} (m : Mark) (h : a.map Ring.defn = b.map Ring.defn) :
    a.any (selectsPeerMark · m) = b.any (selectsPeerMark · m) := by
  cases a <;> cases b <;> simp_all [selectsPeerMark]

/-- The rings that select a mark, in ascending order (R80). -/
def State.selectingRings (s : State) (m : Mark) : List Nat :=
  (List.range 8).filter fun k => (ringAt s k).any (selectsPeerMark · m)

theorem mem_selectingRings {s : State} {m : Mark} {k : Nat} :
    k ∈ s.selectingRings m ↔ ∃ r, ringAt s k = some r ∧ selectsPeerMark r m = true := by
  rw [State.selectingRings, List.mem_filter, List.mem_range, Option.any_eq_true, and_iff_right_iff_imp]
  rintro ⟨r, hr, -⟩
  by_contra hk
  simp [ringAt, hk] at hr

/-- The rings that select a mark take it in ascending order; none of them changes what another selects (R80). -/
theorem journalPeerMark_eq (m : Mark) (s : State) :
    journalPeerMark m s = (s.selectingRings m).foldl (fun u k => takeRecord k (markRecord m true) u) s := by
  have hfold : ∀ (l : List Nat) (u : State), (∀ k, (ringAt u k).map Ring.defn = (ringAt s k).map Ring.defn) →
      l.foldl (fun u k => if (ringAt u k).any (selectsPeerMark · m) then takeRecord k (markRecord m true) u else u) u =
        (l.filter fun k => (ringAt s k).any (selectsPeerMark · m)).foldl
          (fun u k => takeRecord k (markRecord m true) u) u := by
    intro l
    induction l with
    | nil => exact fun _ _ => rfl
    | cons k l ih =>
      intro u hu
      rw [List.foldl_cons, any_selectsPeerMark_congr m (hu k), List.filter_cons]
      split
      · exact ih _ fun j => (takeRecord_defn k _ u j).trans (hu j)
      · exact ih u hu
  exact hfold _ s fun _ => rfl

/-- Ascending lists of the same numbers are one list. -/
theorem ascending_ext {l k : List Nat} (hl : l.Pairwise (· < ·)) (hk : k.Pairwise (· < ·)) (h : ∀ i, i ∈ l ↔ i ∈ k) :
    l = k :=
  List.Perm.eq_of_pairwise (fun _ _ _ _ hab hba => absurd hab (Nat.lt_asymm hba)) hl hk
    ((List.perm_ext_iff_of_nodup (hl.imp Nat.ne_of_lt) (hk.imp Nat.ne_of_lt)).2 h)

end Sys2Proof.Machine
end

section
/-! SETTLED. What the send queue and the rings take of a mark (O17). -/

namespace Sys2Proof.Machine

/-- Settles O17: the offer by the length of the queue, and a peer mark by the list of the rings that select it. -/
theorem marksDelivered : Obligations.MarksDelivered := by
  refine ⟨fun s c m => ⟨fun hroom => offerMark_taken c m hroom, fun hfull => ?refused⟩,
    fun s m => ⟨rfl, fun k => rfl⟩, fun s m l hl hmem => ?peer⟩
  case refused =>
    intro t
    have ht : t = _ := offerMark_refused c m hfull
    rw [ht]
    refine ⟨?_, fun j hj => ?_, ?_⟩
    · rw [← mask_sendOverflow]; rfl
    · simpa using tableUpdate_get_ne _ _ _ _ hj
    · simp [satAdd16]
  case peer =>
    have hsame : l = s.selectingRings m := by
      refine ascending_ext hl (List.pairwise_lt_range.filter _) fun k => ?_
      rw [hmem, mem_selectingRings]
      simp only [selectsPeerMark_iff]
      exact exists_congr fun r => by simp only [exists_and_left]
    rw [hsame, journalPeerMark_eq]

end Sys2Proof.Machine
end

section
/-! SUPPORT. To which peer a discarded frame is attributed, and what its count changes (R49 to R52). -/

namespace Sys2Proof.Machine

/-! ### The nearest expected arrival (R52) -/

/-- The nearer of the slot found so far and the next one, by a distance; of two equally near the one found so far. -/
def nearer (distance : Nat → Nat) (best : Option Nat) (k : Nat) : Option Nat :=
  match best with
  | none => some k
  | some b => if distance k < distance b then some k else some b

theorem nearestPeer_eq (p : Profile) (rs observed : NT) :
    nearestPeer p rs observed = (peerNumbers p).foldl (nearer (arrivalDistance p rs observed)) none := rfl

/-- A slot that no later one is nearer than stays the nearest. -/
theorem foldl_nearer_stays {distance : Nat → Nat} {k : Nat} : ∀ {l : List Nat}, (∀ j ∈ l, distance k ≤ distance j) →
    l.foldl (nearer distance) (some k) = some k
  | [], _ => rfl
  | x :: l, h => by
    obtain ⟨hx, hl⟩ := List.forall_mem_cons.1 h
    rw [List.foldl_cons, nearer, if_neg (Nat.not_lt.2 hx)]
    exact foldl_nearer_stays hl

/-- The nearest of ascending slots, of two equally near the lower, is found. -/
theorem foldl_nearer_finds {distance : Nat → Nat} {k : Nat} : ∀ {l : List Nat} {best : Option Nat},
    l.Pairwise (· < ·) → k ∈ l → (∀ b, best = some b → distance k < distance b) →
    (∀ j ∈ l, (j < k → distance k < distance j) ∧ (k ≤ j → distance k ≤ distance j)) →
    l.foldl (nearer distance) best = some k
  | x :: l, best, hl, hk, hbest, hnear => by
    obtain ⟨hx, hl⟩ := List.pairwise_cons.1 hl
    obtain ⟨hnearX, hnearL⟩ := List.forall_mem_cons.1 hnear
    rw [List.foldl_cons]
    rcases List.mem_cons.1 hk with rfl | hkl
    · have hfound : nearer distance best k = some k := by
        cases best with
        | none => rfl
        | some b => exact if_pos (hbest b rfl)
      rw [hfound]
      exact foldl_nearer_stays fun j hj => (hnearL j hj).2 (Nat.le_of_lt (hx j hj))
    · have hfar := hnearX.1 (hx k hkl)
      refine foldl_nearer_finds hl hkl (fun b hb => ?_) hnearL
      cases best with
      | none => cases hb; exact hfar
      | some _ =>
        rw [nearer] at hb
        split at hb
        · cases hb; exact hfar
        · cases hb; exact hbest _ rfl

/-- The nearest peer is the one that a discarded frame observed in a round is attributed to (R52). -/
theorem nearestPeer_of_nearestTo {s : State} {r : Reception} {k : Nat} (h : s.nearestTo r k) :
    nearestPeer s.profile r.rs r.observed = some k := by
  obtain ⟨hk, hnear⟩ := h
  rw [nearestPeer_eq]
  refine foldl_nearer_finds (peerNumbers_pairwise _) (mem_peerNumbers.2 hk) (fun b hb => (nomatch hb)) fun j hj => ?_
  obtain ⟨hstations, h16, hown⟩ := mem_peerNumbers.1 hj
  exact hnear j hstations h16 hown

/-! ### The counts (R52) -/

/-- A discarded frame is counted where rounds run only (R52). -/
theorem countAttributed_stopped {s : State} (r : Reception) (f : Peer → Peer) (h : ¬ roundsRun s.timebase.sync = true) :
    countAttributed r f s = s := if_neg h

/-- A discarded frame observed in a round counts against the nearest peer (R52). -/
theorem countAttributed_nearest {s : State} {r : Reception} {k : Nat} (f : Peer → Peer)
    (hrun : roundsRun s.timebase.sync = true) (hin : r.inRound = true) (hk : s.nearestTo r k) :
    countAttributed r f s = roundCtlUpdate (fun c => { c with peers := tableUpdate c.peers k f }) s := by
  have hslot : attributedSlot r s = some k := by simp [attributedSlot, hin, nearestPeer_of_nearestTo hk]
  simp only [countAttributed, hrun, hin, hslot, if_true]
  exact peerUpdate_peer f (mem_peerNumbers.2 hk.1)

/-- A discarded frame observed in no round counts against some peer, where there is one (assumption 13). -/
theorem countAttributed_free {s : State} {r : Reception} (f : Peer → Peer) (hrun : roundsRun s.timebase.sync = true)
    (hin : r.inRound = false) (hpeer : peerNumbers s.profile ≠ []) :
    ∃ k ∈ peerNumbers s.profile, countAttributed r f s =
      roundCtlUpdate (fun c => { c with peers := tableUpdate c.peers k f }) { s with freeCount := s.freeCount + 1 } := by
  have hlt : Config.freeSlot s.freeCount % (peerNumbers s.profile).length < (peerNumbers s.profile).length :=
    Nat.mod_lt _ (List.length_pos_iff.2 hpeer)
  have hslot : attributedSlot r s = some (peerNumbers s.profile)[Config.freeSlot s.freeCount % (peerNumbers s.profile).length] := by
    simp [attributedSlot, hin, List.getElem?_eq_getElem hlt]
  refine ⟨_, List.getElem_mem hlt, ?_⟩
  simp only [countAttributed, hrun, hin, hslot, if_true, Bool.false_eq_true, if_false]
  exact peerUpdate_peer f (List.getElem_mem hlt)

theorem mask_duplicateStation : Cause.mask .duplicateStation = 0x40 := by decide

/-! ### FRAME_COMPLETE of a frame that is discarded (R47 to R51) -/

section Complete

variable {s : State} {r : Reception} {octets : List Octet}

/-- FRAME_COMPLETE of a reception under way, or cut short in this step (R47; assumption 35). -/
theorem exec_frameComplete (after : Octet) (hr : s.receives r) :
    exec (.frameComplete ⟨octets, after⟩) s = .next (takeComplete octets after r s) := by
  rcases hr with h | h <;> exact congrArg Host.Outcome.next (by simp [takeFrameComplete, h])

/-- FRAME_FAILED of a reception under way, or cut short in this step (R47). -/
theorem exec_frameFailed (hr : s.receives r) : exec .frameFailed s = .next (takeGarbled r (endReception s)) := by
  rcases hr with h | h <;> exact congrArg Host.Outcome.next (by simp [takeFrameFailed, h])

theorem exec_frameComplete_garbled (after : Octet) (hr : s.receives r) (hf : frameOf s.profile.bodyBudget octets = none) :
    exec (.frameComplete ⟨octets, after⟩) s = .next (takeGarbled r (endReception s)) := by
  rw [exec_frameComplete after hr, takeComplete, hf]

variable {f : Frame}

theorem exec_frameComplete_foreign (after : Octet) (hr : s.receives r) (hf : frameOf s.profile.bodyBudget octets = some f)
    (hforeign : f.clusterTag ≠ s.profile.clusterTag ∨ s.profile.stations ≤ f.sender) :
    exec (.frameComplete ⟨octets, after⟩) s =
      .next (countAttributed r (fun p => { p with foreign := satAdd16 p.foreign 1 }) (endReception s)) := by
  rw [exec_frameComplete after hr, takeComplete, hf]
  exact congrArg Host.Outcome.next (if_pos hforeign)

theorem exec_frameComplete_duplicate (after : Octet) (hr : s.receives r)
    (hf : frameOf s.profile.bodyBudget octets = some f)
    (hforeign : ¬ (f.clusterTag ≠ s.profile.clusterTag ∨ s.profile.stations ≤ f.sender))
    (hown : f.sender = s.profile.station) :
    exec (.frameComplete ⟨octets, after⟩) s =
      .next (raise .duplicateStation
        (roundCtlUpdate (fun c => { c with duplicates := satAdd16 c.duplicates 1 }) (endReception s))) := by
  rw [exec_frameComplete after hr, takeComplete, hf]
  exact congrArg Host.Outcome.next ((if_neg hforeign).trans (if_pos hown))

/-- A frame of another round number counts as a round mismatch (R51; assumption 12). -/
theorem takeInRound_mismatch (h : ¬ (r.inRound = true ∧ f.round = r.round)) (hstart : f.startup = true → r.inRound = true) :
    takeInRound r f s = peerUpdate f.sender (fun p => { p with mismatches := satAdd16 p.mismatches 1 }) s := by
  have hpass : passesRound r f = false := by simpa [passesRound] using h
  have hbefore : (!r.inRound && f.startup) = false := by cases hs : f.startup <;> simp_all
  simp [takeInRound, hpass, hbefore]

/-- A frame of the round outside the window counts as misplaced (R51). -/
theorem takeInRound_misplaced (hin : r.inRound = true) (hround : f.round = r.round)
    (hwindow : s.profile.window < (frameDeviation s.profile r f.sender).natAbs) :
    takeInRound r f s = peerUpdate f.sender (fun p => { p with misplaced := satAdd16 p.misplaced 1 }) s := by
  simp [takeInRound, passesRound, passesWindow, hin, hround, Nat.not_le.2 hwindow]

end Complete

end Sys2Proof.Machine
end

section
/-! SETTLED. FRAME_COMPLETE of a frame that is discarded (O4). -/

namespace Sys2Proof.Machine

/-- Settles O4: the cause of the discard says which count FRAME_COMPLETE comes to, and a count changes one peer's entry. -/
theorem discardedFramesCounted : Obligations.DiscardedFramesCounted := by
  intro s r octets after hr run running plus counted
  have hrunning : running ↔ roundsRun s.timebase.sync = true := (roundsRun_iff _).symm
  have hcounted {k : Nat} {count : Peer → Peer} {free : Nat}
      (hexec : exec (.frameComplete ⟨octets, after⟩) s =
        .next (roundCtlUpdate (fun c => { c with peers := tableUpdate c.peers k count })
          { endReception s with freeCount := s.freeCount + free })) : counted k count free :=
    ⟨_, hexec, rfl, fun j hj => tableUpdate_get_ne _ _ _ _ hj, tableUpdate_get_self _ _ _⟩
  refine ⟨fun hf => by rw [exec_frameComplete_garbled after hr hf, exec_frameFailed hr], ?_⟩
  intro f hf foreign isForeign deviation
  refine ⟨fun hforeign hstopped => ?stopped, fun hforeign hrun hin k hk => ?nearest,
    fun hforeign hrun hin hpeer => ?free, fun hforeign hown => ?duplicate,
    fun hforeign hown h16 hrun hcold hstart => ?judged⟩
  case stopped =>
    have hexec := exec_frameComplete_foreign after hr hf hforeign
    rwa [countAttributed_stopped r _ (by exact fun h => hstopped (hrunning.2 h))] at hexec
  case nearest =>
    have hexec := exec_frameComplete_foreign after hr hf hforeign
    rw [countAttributed_nearest _ (by exact hrunning.1 hrun) hin (by exact hk)] at hexec
    exact hcounted hexec
  case free =>
    have hexec := exec_frameComplete_foreign after hr hf hforeign
    obtain ⟨j, hj⟩ := hpeer
    obtain ⟨k, hk, hcount⟩ := countAttributed_free (s := endReception s)
      (fun p => { p with foreign := satAdd16 p.foreign 1 }) (by exact hrunning.1 hrun) hin
      (List.ne_nil_of_mem (mem_peerNumbers.2 hj))
    rw [hcount] at hexec
    exact ⟨k, mem_peerNumbers.1 hk, hcounted hexec⟩
  case duplicate =>
    have hexec := exec_frameComplete_duplicate after hr hf hforeign hown
    refine hexec.trans ?_
    rw [← mask_duplicateStation]
    rfl
  case judged =>
    obtain ⟨htag, hsender⟩ := not_or.1 hforeign
    have hsender : f.sender < s.profile.stations := Nat.not_le.1 hsender
    have hk : f.sender ∈ peerNumbers (endReception s).profile := mem_peerNumbers.2 ⟨hsender, h16, hown⟩
    have hnojoin : s.timebase.sync = .coldstart → ¬ joinsFromColdstart s.profile r f = true := by
      rw [joinsFromColdstart_iff]
      rintro hsync (⟨hstartup, hlower⟩ | ⟨hregular, hsynced, -⟩)
      · have := (hcold hsync).1 hstartup; omega
      · rw [(hcold hsync).2 hregular] at hsynced; cases hsynced
    have hexec := exec_frameComplete_checked after hr hf (not_not.1 htag) hsender hown
    rw [takeChecked_running after (by exact hrunning.1 hrun) (by exact hnojoin)] at hexec
    refine ⟨fun hmismatch => ?_, fun hin hround hwindow => ?_⟩
    · rw [takeInRound_mismatch hmismatch hstart, peerUpdate_peer _ hk] at hexec
      exact hcounted hexec
    · rw [takeInRound_misplaced hin hround (by exact hwindow), peerUpdate_peer _ hk] at hexec
      exact hcounted hexec

end Sys2Proof.Machine
end

section
/-! SUPPORT. What CANCEL_REMOTE finds in the outbound table and in the send queue (R43, R173). -/

namespace Sys2Proof.Machine

variable {s : State}

/-- The lowest place whose record satisfies p is the first of the places listed. -/
theorem head?_recordsWhere {p : OutRecord → Bool} {i : Nat} {r : OutRecord} (hr : recordOf s i = some r) (hp : p r = true)
    (hlow : ∀ j q, j < i → recordOf s j = some q → p q = false) : (recordsWhere p s).head? = some i := by
  have hi : i ∈ recordsWhere p s := mem_recordsWhere.2 ⟨r, hr, hp⟩
  have hord := recordsWhere_pairwise p s
  cases hl : recordsWhere p s with
  | nil => rw [hl] at hi; cases hi
  | cons x l =>
    rw [hl] at hi hord
    obtain ⟨q, hq, hpq⟩ := mem_recordsWhere.1 (hl ▸ List.mem_cons_self : x ∈ recordsWhere p s)
    rcases List.mem_cons.1 hi with rfl | hil
    · rfl
    · have hfalse := hlow x q ((List.pairwise_cons.1 hord).1 i hil) hq
      rw [hpq] at hfalse
      cases hfalse

/-- No place is listed where no record satisfies p. -/
theorem recordsWhere_eq_nil {p : OutRecord → Bool} (h : ∀ i r, recordOf s i = some r → p r = false) :
    recordsWhere p s = [] := by
  refine List.eq_nil_iff_forall_not_mem.2 fun i hi => ?_
  obtain ⟨r, hr, hp⟩ := mem_recordsWhere.1 hi
  rw [h i r hr] at hp
  cases hp

/-! ### The ARM item of a record (R43) -/

/-- The first ARM item for a target and tag stands after the items that are none. -/
theorem findIdx_isArmFor {target c : Nat} {tag : Octet} {f : ArmFields} {before after : List Item}
    (hbefore : ∀ x, x ∈ before → isArmFor target tag x = false) :
    (before ++ .arm target c tag f :: after).findIdx (isArmFor target tag) = before.length := by
  have hhit : isArmFor target tag (.arm target c tag f) = true := by simp [isArmFor]
  have hmiss : ¬ before.findIdx (isArmFor target tag) < before.length := fun hlt => by
    obtain ⟨x, hx, hp⟩ := List.findIdx_lt_length.1 hlt
    rw [hbefore x hx] at hp
    cases hp
  rw [List.findIdx_append, if_neg hmiss, List.findIdx_cons, hhit]
  exact Nat.zero_add _

section Withdraw

variable {target c : Nat} {tag : Octet} {f : ArmFields} {before after : List Item}

/-- An ARM item in flight is not withdrawn (R43). -/
theorem withdrawArm_inFlight (hq : s.roundCtl.queue = before ++ .arm target c tag f :: after)
    (hbefore : ∀ x, x ∈ before → isArmFor target tag x = false) (h : before.length < packedCount s) :
    withdrawArm target tag s = none := by
  simp only [withdrawArm, hq, findIdx_isArmFor hbefore]
  exact if_neg fun ⟨_, hle⟩ => Nat.not_le.2 h hle

/-- An ARM item that is not in flight leaves the queue (R43). -/
theorem withdrawArm_waiting (hq : s.roundCtl.queue = before ++ .arm target c tag f :: after)
    (hbefore : ∀ x, x ∈ before → isArmFor target tag x = false) (h : packedCount s ≤ before.length) :
    withdrawArm target tag s = some (setQueue (before ++ after) s) := by
  simp only [withdrawArm, hq, findIdx_isArmFor hbefore]
  rw [if_pos ⟨by simp, h⟩, List.eraseIdx_append_of_length_le le_rfl]
  simp

end Withdraw

/-! ### CANCEL_REMOTE (R173) -/

/-- CANCEL_REMOTE with its operand, while its command octet is being clocked in. -/
theorem exec_cancelRemote (tag : Octet) (ho : s.portOpen) : exec (.cancelRemote tag) s =
    .next ((takeCancelRemote tag s).1.answering 2 8 (takeCancelRemote tag s).2.code (takeCancelRemote tag s).2.data) :=
  congrArg Host.Outcome.next (portCommand_open .cancelRemote [tag] ho rfl)

theorem takeCancelRemote_record {tag : Octet} {i : Nat} {r : OutRecord} (hstarted : s.port.started = true)
    (hr : recordOf s i = some r) (htag : r.tag = tag) (hlow : ∀ j q, j < i → recordOf s j = some q → q.tag ≠ tag) :
    takeCancelRemote tag s = cancelRecord i r s := by
  have hhead : (recordsWhere (fun r => r.tag == tag) s).head? = some i :=
    head?_recordsWhere hr (by simp [htag]) fun j q hj hq => by simpa using hlow j q hj hq
  simp only [takeCancelRemote, hstarted, hhead, hr]
  rfl

theorem cancelRecord_requested {i : Nat} {r : OutRecord} (h : r.cancelRequested = true) :
    cancelRecord i r s = (s, Answer.done (cancelRemoteData 2 (some r.state))) := if_pos h

/-- A record whose ARM item is not withdrawn has its cancel offered (R173). -/
theorem cancelRecord_offers {i : Nat} {r : OutRecord} (h : r.cancelRequested = false)
    (hw : r.state = .queued → withdrawArm r.target r.tag s = none) : cancelRecord i r s = offerCancel i r s := by
  rw [cancelRecord, if_neg (by simp [h])]
  cases hstate : r.state with
  | queued => simp only [hw hstate]
  | awaiting => rfl
  | accepted => rfl

/-- A QUEUED record whose ARM item is withdrawn completes (R173). -/
theorem cancelRecord_withdraws {i : Nat} {r : OutRecord} {t : State} (h : r.cancelRequested = false)
    (hstate : r.state = .queued) (hw : withdrawArm r.target r.tag s = some t) :
    cancelRecord i r s = (completeRecord i Code.withdrawn Carried.nothing t, Answer.done (cancelRemoteData 0 none)) := by
  rw [cancelRecord, if_neg (by simp [h])]
  simp only [hstate, hw]

theorem offerCancel_refused {i : Nat} {r : OutRecord} (h : 28 ≤ s.roundCtl.queue.length) :
    offerCancel i r s = (s, { code := Code.refusedFull, data := [0x01] }) := by
  have hnone : offerRequest (.cancel r.target r.tag) s = none :=
    if_neg fun htakes => Nat.not_lt.2 h ((queueTakes_open (by rfl)).1 htakes)
  rw [offerCancel, hnone]

theorem offerCancel_taken {i : Nat} {r : OutRecord} (h : s.roundCtl.queue.length < 28) :
    offerCancel i r s =
      (setRecord i (some { r with cancelRequested := true }) (setQueue (s.roundCtl.queue ++ [.cancel r.target r.tag]) s),
        Answer.done (cancelRemoteData 1 (some r.state))) := by
  rw [offerCancel, offerRequest_eq_some.2 ⟨(queueTakes_open (by rfl)).2 h, rfl⟩]

end Sys2Proof.Machine
end

section
/-! SETTLED. CANCEL_REMOTE (O41). -/

namespace Sys2Proof.Machine

/-- Settles O41: the record found, its state and the place of its ARM item in the queue say what becomes of it. -/
theorem cancelRemoteActs : Obligations.CancelRemoteActs := by
  intro s tag ho run packed
  have hrun {o : Host.Outcome State Fault Refusal} (h : .next ((takeCancelRemote tag s).1.answering 2 8
      (takeCancelRemote tag s).2.code (takeCancelRemote tag s).2.data) = o) : run o := (exec_cancelRemote tag ho).trans h
  refine ⟨fun hnot => ?notStarted, fun hstarted hnone => ?notFound, ?found⟩
  case notStarted =>
    have htake : takeCancelRemote tag s = (s, Answer.only Code.refusedState) := if_pos (by simp [hnot])
    exact hrun (by rw [htake]; rfl)
  case notFound =>
    have htake : takeCancelRemote tag s = (s, Answer.only Code.notFound) := by
      simp [takeCancelRemote, hstarted, recordsWhere_eq_nil fun i r hr => beq_eq_false_iff_ne.2 (hnone i r hr)]
    exact hrun (by rw [htake]; rfl)
  case found =>
    intro i r hstarted hr htag hlow code offers
    have htake := takeCancelRemote_record hstarted hr htag hlow
    have hi := lt_of_recordOf hr
    have hoffers (hc : cancelRecord i r s = offerCancel i r s) : offers := by
      refine ⟨fun hfull => hrun ?_, fun hroom =>
        ⟨setRecord i (some { r with cancelRequested := true }) (setQueue (s.roundCtl.queue ++ [.cancel r.target r.tag]) s),
          hrun ?_, rfl, ?_, fun j hj => ?_, rfl, rfl⟩⟩
      · rw [htake, hc, offerCancel_refused hfull]; rfl
      · rw [htake, hc, offerCancel_taken hroom]; rfl
      · rw [recordOf_setRecord, if_pos ⟨rfl, hi⟩]
      · rw [recordOf_setRecord, if_neg fun h => hj h.1]; rfl
    refine ⟨fun hreq => hrun ?_, fun hreq hstate => hoffers (cancelRecord_offers hreq fun h => absurd h hstate), ?_⟩
    · rw [htake, cancelRecord_requested hreq]; rfl
    · intro before after c f hreq hstate hq hbefore
      refine ⟨fun hin => hoffers (cancelRecord_offers hreq fun _ => withdrawArm_inFlight hq hbefore hin),
        fun hout => hrun ?_⟩
      rw [htake, cancelRecord_withdraws hreq hstate (withdrawArm_waiting hq hbefore hout)]
      rfl

end Sys2Proof.Machine
end

section
/-! SUPPORT. What the readings of the attach port answer (R58, R74, R87, R90, R119, R140, R145, R191). -/

namespace Sys2Proof.Machine

variable {s : State}

/-- A command whose owner's answer is known, taken with all its operand octets while its command octet is being clocked in. -/
theorem portCommand_answers {t : State} {a : Answer} (cmd : Cmd) (ops : List Octet) (ho : s.portOpen)
    (hl : ops.length = cmd.operandCount) (hcap : cmd.capturesTime = false) (h : takeCommand cmd ops s = (t, a)) :
    portCommand cmd ops s = t.answering (1 + ops.length) cmd.periods a.code a.data := by
  simp only [portCommand_open cmd ops ho hl, hcap, h, Bool.false_eq_true, if_false]

/-! ### Stations and channels (R58, R74) -/

theorem takeReadPeer_station {k : Nat} (hstarted : s.port.started = true) (hk : k = s.profile.station) (h15 : k ≤ 15) :
    takeReadPeer k s = (s, Answer.done (stationData s.roundCtl)) := by
  rw [takeReadPeer, if_neg (Nat.not_lt.2 h15), if_pos (by simp [hstarted, hk])]

theorem takeReadPeer_peer {k : Nat} {q : Peer} (hother : s.port.started = false ∨ k ≠ s.profile.station)
    (hq : s.roundCtl.peers[k]? = some q) : takeReadPeer k s = (s, Answer.done (peerData q)) := by
  obtain ⟨hk, -⟩ := Vector.getElem?_eq_some_iff.1 hq
  rw [takeReadPeer, if_neg (by omega), if_neg (by rcases hother with h | h <;> simp [h]), hq, Option.getD_some]

theorem takeReadChannel_some {c : Nat} {ch : Channel} (hch : s.channels[c]? = some ch) : takeReadChannel c s =
    (s, Answer.done (channelData (channelCfg s c) (if changeDue c s then { ch with drive := ch.drive.before } else ch))) := by
  simp only [takeReadChannel, hch, shownDrive]
  cases changeDue c s <;> rfl

theorem takeReadChannel_none {c : Nat} (hc : 7 < c) : takeReadChannel c s = (s, Answer.only Code.invalid) := by
  have hnone : s.channels[c]? = none := Vector.getElem?_eq_none (by omega)
  simp only [takeReadChannel, hnone]

/-! ### What is due and would change a drive line (R145) -/

/-- Where nothing that brings the drive lines something is due, taking it changes nothing. -/
theorem drainDrives_quiet (h : s.drivesQuiet) : drainDrives s = s := by
  obtain ⟨hline, hround, hentries, hfires, hends⟩ := h
  have hpulse (i : Nat) : ¬ s.isDue (.pulse i) := by
    rintro ⟨e, he, ⟨l, w, heffect⟩, ends, since, c, hstate, hsince, hdue⟩
    exact (hentries i e he).2 l w ends since c heffect hstate hsince hdue
  have hfire (i : Nat) : ¬ s.isDue (.fire i) := by
    rintro ⟨e, he, d, hstate, hdue⟩
    exact (hentries i e he).1 d hstate hdue
  have hcyclicEnd (e : CyclicEnd) : ¬ s.isDue (.cyclicEnd e) := fun ⟨he, hsince, hdue⟩ => hends e he hsince hdue
  have hcyclic : dueCyclic s = [] := List.eq_nil_iff_forall_not_mem.2 fun d hd =>
    have ⟨hmem, hdue⟩ := mem_dueCyclic.1 hd
    hfires d hmem hdue
  have hdrain : drainFires (firesLeft s) s = s := by
    rw [drainFires_eq]
    exact Function.iterate_fixed (takeFire_none (dueFires_eq_nil.2 hfire)) _
  have htakeLine : takeHoldLine s = s := if_neg (by simp [hline])
  rw [drainDrives, htakeLine, drainPulseEnds_none hpulse hcyclicEnd, takeRoundEnds_none hround, drainStarts, hdrain,
    takeDueCyclic, hcyclic, List.foldl_nil]

theorem changeDue_quiet (h : s.drivesQuiet) (c : Nat) : changeDue c s = false := by
  rw [changeDue, drainDrives_quiet h]
  cases s.channels[c]? <;> simp [Drive.readsAs]

theorem changeDue_iff {c : Nat} {ch ch' : Channel} (hch : s.channels[c]? = some ch)
    (hch' : (drainDrives s).channels[c]? = some ch') :
    changeDue c s = true ↔ (s.hold.held = true ∧ (drainDrives s).hold.held = false) ∨
      ch'.drive.level ≠ ch.drive.level ∨ ch'.drive.lastChange ≠ ch.drive.lastChange ∨
      ch'.drive.changes ≠ ch.drive.changes := by
  have hreads : ch.drive.readsAs ch'.drive = false ↔ ch'.drive.level ≠ ch.drive.level ∨
      ch'.drive.lastChange ≠ ch.drive.lastChange ∨ ch'.drive.changes ≠ ch.drive.changes := by
    simp only [Drive.readsAs, Bool.and_eq_false_iff, beq_eq_false_iff_ne, ne_comm, or_assoc]
  simp only [changeDue, hch, hch', Bool.or_eq_true, Bool.and_eq_true, Bool.not_eq_true', hreads]

/-! ### The profile, entries and banks (R119, R140, R191) -/

theorem takeReadProfile_some {os : List Octet} (h : s.port.loaded = some os) :
    takeReadProfile s = (s, Answer.done (flagOctet s.port.started :: os)) := by
  simp only [takeReadProfile, h]

theorem takeReadProfile_none (h : s.port.loaded = none) : takeReadProfile s = (s, Answer.only Code.notFound) := by
  simp only [takeReadProfile, h]

theorem takeReadEntry_free {i : Nat} (hi : i ≤ 47) (h : entryAt s i = none) :
    takeReadEntry i s = (s, Answer.done [0]) := by
  rw [takeReadEntry, if_neg (Nat.not_lt.2 hi), h]

theorem takeReadEntry_some {i : Nat} {e : Entry} (h : entryAt s i = some e) :
    takeReadEntry i s = (s, Answer.done (entryData e)) := by
  have hi := lt_of_entryAt h
  rw [takeReadEntry, if_neg (by omega), h]

/-! ### Rings (R87, R90) -/

/-- A ring command whose ring operand is not served answers so, and changes nothing (R87). -/
theorem ringCommands_refused {k j n : Nat} {a : Answer} (h : judgeRing k s = .inr a) :
    takeRingStatus k s = (s, a) ∧ takeReadRing k j s = (s, a) ∧ takeReleaseRing k n s = (s, a) := by
  simp only [takeRingStatus, takeReadRing, takeReleaseRing, h, and_self]

theorem judgeRing_invalid {k : Nat} (hk : 7 < k) : judgeRing k s = .inr (Answer.only Code.invalid) := if_pos hk

theorem judgeRing_notStarted {k : Nat} (hk : k ≤ 7) (h : s.port.started = false) :
    judgeRing k s = .inr (Answer.only Code.refusedState) := by
  rw [judgeRing, if_neg (Nat.not_lt.2 hk), if_pos (by simp [h])]

theorem judgeRing_notFound {k : Nat} (hk : k ≤ 7) (h : s.port.started = true) (hr : ringAt s k = none) :
    judgeRing k s = .inr (Answer.only Code.notFound) := by
  rw [judgeRing, if_neg (Nat.not_lt.2 hk), if_neg (by simp [h]), hr]

theorem judgeRing_served {k : Nat} {r : Ring} (hk : k ≤ 7) (h : s.port.started = true) (hr : ringAt s k = some r) :
    judgeRing k s = .inl r := by
  rw [judgeRing, if_neg (Nat.not_lt.2 hk), if_neg (by simp [h]), hr]

/-- The answers of the ring commands where the ring operand is not served (R87). -/
theorem exec_ringCommands_refused {k : Octet} (j : Octet) (n : Word16) {a : Answer} (ho : s.portOpen)
    (h : judgeRing k.toNat s = .inr a) :
    exec (.ringStatus k) s = .next (s.answering 2 8 a.code a.data) ∧
    exec (.readRing k j) s = .next (s.answering 3 8 a.code a.data) ∧
    exec (.releaseRing k n) s = .next (s.answering 4 8 a.code a.data) := by
  obtain ⟨hstatus, -, -⟩ := ringCommands_refused (j := 0) (n := 0) h
  obtain ⟨-, hread, -⟩ := ringCommands_refused (j := byteAt [k, j] 1) (n := 0) h
  obtain ⟨-, -, hrelease⟩ := ringCommands_refused (j := 0) (n := fieldAt (k :: le 2 n.toNat) 1 2) h
  exact ⟨congrArg Host.Outcome.next (portCommand_answers .ringStatus [k] ho rfl rfl hstatus),
    congrArg Host.Outcome.next (portCommand_answers .readRing [k, j] ho rfl rfl hread),
    congrArg Host.Outcome.next (portCommand_answers .releaseRing (k :: le 2 n.toNat) ho rfl rfl hrelease)⟩

end Sys2Proof.Machine
end

section
/-! SETTLED. The readings change nothing but the transaction (O15). -/

namespace Sys2Proof.Machine

/-- Settles O15: each reading's owner answers and leaves the state, and the port takes the answer. -/
theorem readingsChangeNothing : Obligations.ReadingsChangeNothing := by
  refine ⟨fun s ho => ?done, fun s ho => ?refused⟩
  case done =>
    have hpeer {k : Octet} {d : List Octet} (h : takeReadPeer k.toNat s = (s, Answer.done d)) :
        exec (.readPeer k) s = .next (s.answering 2 8 0x01 d) :=
      congrArg Host.Outcome.next (portCommand_answers .readPeer [k] ho rfl rfl h)
    have hentry {i : Octet} {d : List Octet} (h : takeReadEntry i.toNat s = (s, Answer.done d)) :
        exec (.readEntry i) s = .next (s.answering 2 8 0x01 d) :=
      congrArg Host.Outcome.next (portCommand_answers .readEntry [i] ho rfl rfl h)
    refine ⟨fun k hstarted hk h15 => hpeer (takeReadPeer_station hstarted hk h15),
      fun k q hother hq => hpeer (takeReadPeer_peer hother hq), fun c ch hch => ?channel,
      fun c h => changeDue_quiet h c, fun c ch ch' hch hch' => changeDue_iff hch hch', fun os hos => ?profile,
      fun i hi h => hentry (takeReadEntry_free hi h), fun i e h => hentry (takeReadEntry_some h),
      fun b i n hb hi hpos hn => ?bank, fun k r hk hstarted hr => ?ring⟩
    case channel =>
      exact congrArg Host.Outcome.next (portCommand_answers .readChannel [c] ho rfl rfl (takeReadChannel_some hch))
    case profile =>
      exact congrArg Host.Outcome.next (portCommand_answers .readProfile [] ho rfl rfl (takeReadProfile_some hos))
    case bank =>
      have htake : takeReadBank b.toNat i.toNat n.toNat s = _ := if_neg (by omega)
      exact congrArg Host.Outcome.next (portCommand_answers .readBank [b, i, n] ho rfl rfl htake)
    case ring =>
      have htake : takeRingStatus k.toNat s = (s, Answer.done (ringData r s.journal.discarded)) := by
        rw [takeRingStatus, judgeRing_served hk hstarted hr]
      exact congrArg Host.Outcome.next (portCommand_answers .ringStatus [k] ho rfl rfl htake)
  case refused =>
    refine ⟨fun k hk => ?peer, fun c hc => ?channel, fun h => ?profile, fun i hi => ?entry, fun b i n h => ?bank,
      fun k j n hk => exec_ringCommands_refused j n ho (judgeRing_invalid hk),
      fun k j n hk h => exec_ringCommands_refused j n ho (judgeRing_notStarted hk h),
      fun k j n hk h hr => exec_ringCommands_refused j n ho (judgeRing_notFound hk h hr)⟩
    case peer =>
      have htake : takeReadPeer k.toNat s = _ := if_pos hk
      exact congrArg Host.Outcome.next (portCommand_answers .readPeer [k] ho rfl rfl htake)
    case channel =>
      exact congrArg Host.Outcome.next (portCommand_answers .readChannel [c] ho rfl rfl (takeReadChannel_none hc))
    case profile =>
      exact congrArg Host.Outcome.next (portCommand_answers .readProfile [] ho rfl rfl (takeReadProfile_none h))
    case entry =>
      have htake : takeReadEntry i.toNat s = _ := if_pos hi
      exact congrArg Host.Outcome.next (portCommand_answers .readEntry [i] ho rfl rfl htake)
    case bank =>
      have htake : takeReadBank b.toNat i.toNat n.toNat s = _ := if_pos h
      exact congrArg Host.Outcome.next (portCommand_answers .readBank [b, i, n] ho rfl rfl htake)

end Sys2Proof.Machine
end

section
/-! SUPPORT. What runs of equal samples make of a capture filter, and what an accepted edge comes to (R63, R64, R66 to
R71). -/

namespace Sys2Proof.Machine

/-! ### Runs of samples (R64) -/

/-- The filter after samples of one level, taken in the steps and at the NTs of the list. -/
def Filter.samples (n : Nat) (l : Level) (ps : List (Nat × NT)) (f : Filter) : Filter :=
  ps.foldl (fun f p => f.sample n p.1 p.2 l) f

@[simp] theorem Filter.samples_nil (n : Nat) (l : Level) (f : Filter) : f.samples n l [] = f := rfl

@[simp] theorem Filter.samples_cons (n : Nat) (l : Level) (p : Nat × NT) (ps : List (Nat × NT)) (f : Filter) :
    f.samples n l (p :: ps) = (f.sample n p.1 p.2 l).samples n l ps := rfl

theorem Filter.samples_append (n : Nat) (l : Level) (ps qs : List (Nat × NT)) (f : Filter) :
    f.samples n l (ps ++ qs) = (f.samples n l ps).samples n l qs :=
  List.foldl_append

/-- A sample of the accepted level drops the run. -/
theorem Filter.sample_accepted {f : Filter} {acc : Level} (n step : Nat) (now : NT) (h : f.accepted = some acc) :
    f.sample n step now acc = { f with run := 0 } := by
  simp [Filter.sample, h]

/-- A sample of a level that is not the accepted one begins a run, where it does not complete one. -/
theorem Filter.sample_begins {f : Filter} {n : Nat} {l : Level} (step : Nat) (now : NT) (hacc : f.accepted ≠ some l)
    (hrun : f.run = 0) (hn : 1 < n) :
    f.sample n step now l = { f with candidate := l, run := 1, runStart := now, runStep := step } := by
  cases h : f.accepted with
  | none => simp [Filter.sample, h, hrun, Nat.not_le.2 hn]
  | some acc =>
    have hl : l ≠ acc := fun e => hacc (e ▸ h)
    simp [Filter.sample, h, hrun, hl, Nat.not_le.2 hn]

/-- A sample of the level of the run under way adds to the run, where it does not complete it. -/
theorem Filter.sample_continues {f : Filter} {n : Nat} {l : Level} (step : Nat) (now : NT) (hacc : f.accepted ≠ some l)
    (hcand : f.candidate = l) (hrun : f.run ≠ 0) (hn : f.run + 1 < n) :
    f.sample n step now l = { f with run := f.run + 1 } := by
  cases h : f.accepted with
  | none => simp [Filter.sample, h, hrun, hcand, Nat.not_le.2 hn]
  | some acc =>
    have hl : l ≠ acc := fun e => hacc (e ▸ h)
    simp [Filter.sample, h, hrun, hl, Nat.not_le.2 hn]

/-- The sample that completes a run of a settled filter makes the edge due; a run of one sample starts with it. -/
theorem Filter.sample_completes_settled {f : Filter} {n : Nat} {acc l : Level} (step : Nat) (now : NT)
    (hacc : f.accepted = some acc) (hl : l ≠ acc) (hn : f.run + 1 = n) :
    f.sample n step now l =
      if f.run = 0 then { f with candidate := l, runStart := now, runStep := step, edgeDue := true }
      else { f with edgeDue := true } := by
  by_cases hrun : f.run = 0 <;> simp [Filter.sample, hacc, hl, hrun, ← hn]

/-- The sample that completes a run of a filter that is not settled settles it. -/
theorem Filter.sample_completes_unsettled {f : Filter} {n : Nat} {l : Level} (step : Nat) (now : NT)
    (hacc : f.accepted = none) (hcand : f.run ≠ 0 → f.candidate = l) (hn : f.run + 1 = n) :
    f.sample n step now l = { f with accepted := some l, candidate := l, run := 0 } := by
  by_cases hrun : f.run = 0
  · simp [Filter.sample, hacc, hrun, ← hn]
  · simp [Filter.sample, hacc, hrun, hcand hrun, ← hn]

/-- Samples of its level add to the run under way, as long as they do not complete it. -/
theorem Filter.samples_continue {n : Nat} {l : Level} (ps : List (Nat × NT)) {f : Filter} (hacc : f.accepted ≠ some l)
    (hcand : f.candidate = l) (hrun : f.run ≠ 0) (hn : f.run + ps.length < n) :
    f.samples n l ps = { f with run := f.run + ps.length } := by
  induction ps generalizing f with
  | nil => rfl
  | cons p ps ih =>
    rw [List.length_cons] at hn
    rw [samples_cons, sample_continues p.1 p.2 hacc hcand hrun (by omega),
      ih (by exact hacc) (by exact hcand) (Nat.succ_ne_zero _) (by simp only; omega), List.length_cons]
    simp only [Nat.add_assoc, Nat.add_comm 1]

/-- Fewer samples than a run needs: the run starts with the first of them. -/
theorem Filter.samples_short {f : Filter} {n : Nat} {l : Level} (p : Nat × NT) (ps : List (Nat × NT))
    (hacc : f.accepted ≠ some l) (hrun : f.run = 0) (hn : ps.length + 1 < n) :
    f.samples n l (p :: ps) =
      { f with candidate := l, run := ps.length + 1, runStart := p.2, runStep := p.1 } := by
  rw [samples_cons, sample_begins p.1 p.2 hacc hrun (by omega),
    samples_continue (l := l) ps (by exact hacc) (by rfl) Nat.one_ne_zero (by simp only; omega)]
  simp only [Nat.add_comm 1]

/-- A run of n samples of the other level makes the edge of a settled filter due, with the time and the step of the
first of them. -/
theorem Filter.samples_complete_settled {f : Filter} {n : Nat} {acc l : Level} (p : Nat × NT) (ps : List (Nat × NT))
    (hacc : f.accepted = some acc) (hl : l ≠ acc) (hrun : f.run = 0) (hn : ps.length + 1 = n) :
    f.samples n l (p :: ps) =
      { f with candidate := l, run := ps.length, runStart := p.2, runStep := p.1, edgeDue := true } := by
  obtain rfl | ⟨qs, q, rfl⟩ := ps.eq_nil_or_concat'
  case inl =>
    rw [samples_cons, samples_nil, sample_completes_settled p.1 p.2 hacc hl (by rw [hrun]; exact hn), if_pos hrun, hrun]
    rfl
  case inr =>
    have hother : f.accepted ≠ some l := by simpa [hacc] using hl.symm
    rw [List.length_append, List.length_singleton] at hn
    rw [← List.cons_append, samples_append, samples_short p qs hother hrun (by omega), samples_cons, samples_nil,
      sample_completes_settled (l := l) q.1 q.2 (by exact hacc) hl (by exact hn), if_neg (Nat.succ_ne_zero _),
      List.length_append, List.length_singleton]

/-- A run of n samples settles a filter that is not settled, and makes no edge. -/
theorem Filter.samples_complete_unsettled {f : Filter} {n : Nat} {l : Level} (p : Nat × NT) (ps : List (Nat × NT))
    (hacc : f.accepted = none) (hrun : f.run = 0) (hn : ps.length + 1 = n) :
    let g := f.samples n l (p :: ps)
    g.accepted = some l ∧ g.run = 0 ∧ g.edgeDue = f.edgeDue := by
  obtain rfl | ⟨qs, q, rfl⟩ := ps.eq_nil_or_concat'
  case inl =>
    rw [samples_cons, samples_nil, sample_completes_unsettled p.1 p.2 hacc (absurd hrun) (by rw [hrun]; exact hn)]
    exact ⟨rfl, rfl, rfl⟩
  case inr =>
    rw [List.length_append, List.length_singleton] at hn
    rw [← List.cons_append, samples_append, samples_short p qs (by simp [hacc]) hrun (by omega), samples_cons,
      samples_nil, sample_completes_unsettled (l := l) q.1 q.2 (by exact hacc) (fun _ => by rfl) (by exact hn)]
    exact ⟨rfl, rfl, rfl⟩

/-! ### Reference periods and adoptions of the channels (R63, R65) -/

/-- A reference period touches the channels. -/
theorem capturePeriod_eq (s : State) (c : Nat) :
    capturePeriod s c = { s with channels := (capturePeriod s c).channels } := by
  apply State.ext_parts <;> simp

/-- The channels that take their samples after an adoption are restamped. -/
theorem sampledAfterAdoption_restamped (a : Octet) (s : State) : s.restamped a (sampledAfterAdoption a s) :=
  restamped_of_channels fun c ch hch => by
    have hc : c < 8 := (Vector.getElem?_eq_some_iff.1 hch).1
    rw [sampledAfterAdoption_channel a s hc, hch]
    rfl

/-! ### Accepted edges (R66) -/

/-- A change of one channel: the others and the rest of the state stand. -/
theorem channelUpdate_only {s : State} {c : Nat} {ch : Channel} (f : Channel → Channel) (h : s.channels[c]? = some ch) :
    channelUpdate c f s = { s with channels := (channelUpdate c f s).channels } ∧
      (channelUpdate c f s).channels[c]? = some (f ch) ∧
      ∀ j, j ≠ c → (channelUpdate c f s).channels[j]? = s.channels[j]? :=
  ⟨rfl, by simp [h], fun j hj => by simpa using tableUpdate_get_ne s.channels c j f hj⟩

theorem channelUpdate_channelUpdate (c : Nat) (f g : Channel → Channel) (s : State) :
    channelUpdate c g (channelUpdate c f s) = channelUpdate c (fun ch => g (f ch)) s := by
  simp only [channelUpdate, tableUpdate_tableUpdate_same]

/-- The edges that an edge select admits. -/
theorem edgeQualifies_iff (sel : EdgeSel) (e : Edge) : edgeQualifies sel e = true ↔
    sel = .either ∨ (sel = .rising ∧ e = .rising) ∨ (sel = .falling ∧ e = .falling) := by
  cases sel <;> cases e <;> simp [edgeQualifies]

/-- A channel whose filter accepts its candidate level. -/
def Channel.accept (ch : Channel) : Channel := { ch with filter := ch.filter.accept }

theorem takeEdge_due {s : State} {c : Nat} {cfg : CaptureCfg} {ch : Channel} (b : Bool)
    (hcfg : channelCfg s c = .capture cfg) (hch : s.channels[c]? = some ch) (hdue : ch.filter.edgeDue = true) :
    takeEdge c b s = takeEdgeOf c cfg b ch s := by
  simp [takeEdge, hcfg, hch, hdue]

/-- An edge that does not qualify is accepted and makes no mark. -/
theorem takeEdgeOf_unqualified {cfg : CaptureCfg} {ch : Channel} (c : Nat) (b : Bool) (s : State)
    (h : edgeQualifies cfg.edgeSel (edgeTo ch.filter.candidate) = false) :
    takeEdgeOf c cfg b ch s = channelUpdate c Channel.accept s := by
  simp only [takeEdgeOf, h, Bool.not_false, if_true]
  rfl

/-- An edge that the prescaler holds back is counted and makes no mark. -/
theorem takeEdgeOf_heldBack {cfg : CaptureCfg} {ch : Channel} (c : Nat) (b : Bool) (s : State)
    (h : edgeQualifies cfg.edgeSel (edgeTo ch.filter.candidate) = true) (hp : ch.prescale + 1 < cfg.prescaler) :
    takeEdgeOf c cfg b ch s =
      channelUpdate c (fun ch => { ch.accept with prescale := ch.prescale + 1 }) s := by
  simp only [takeEdgeOf, h, Bool.not_true, Bool.false_eq_true, if_false, if_pos hp, channelUpdate_channelUpdate]
  rfl

/-- Any other edge makes a mark, which is delivered. -/
theorem takeEdgeOf_marks {cfg : CaptureCfg} {ch : Channel} (c : Nat) (b : Bool) (s : State)
    (h : edgeQualifies cfg.edgeSel (edgeTo ch.filter.candidate) = true) (hp : cfg.prescaler ≤ ch.prescale + 1) :
    takeEdgeOf c cfg b ch s =
      deliverMark cfg c b (newMark c ch s) (channelUpdate c (fun x => x.accept.marked (newMark c ch s)) s) := by
  simp only [takeEdgeOf, h, Bool.not_true, Bool.false_eq_true, if_false, if_neg (Nat.not_lt.2 hp),
    channelUpdate_channelUpdate]
  rfl

/-! ### The deliveries of a mark (R69 to R71) -/

/-- An unsynced mark goes to the journal only. -/
theorem deliverMark_unsynced {m : Mark} (cfg : CaptureCfg) (c : Nat) (b : Bool) (s : State) (h : m.unsynced = true) :
    deliverMark cfg c b m s = journalLocalMark cfg.ring m s := by
  simp [deliverMark, publishMark, matchMark, h]

/-- A synced mark goes to the journal, to the send queue of a publishing channel, and to the matcher. -/
theorem deliverMark_synced {m : Mark} (cfg : CaptureCfg) (c : Nat) (b : Bool) (s : State) (h : m.unsynced = false) :
    deliverMark cfg c b m s =
      let offer (v : State) := if cfg.publish then offerMark c m v else v
      if b then offer (takeMark m (journalLocalMark cfg.ring m s))
      else takeMark m (offer (journalLocalMark cfg.ring m s)) := by
  simp [deliverMark, publishMark, matchMark, h]

end Sys2Proof.Machine
end

section
/-! SETTLED. The capture filter (O44) and EDGE_ACCEPTED (O43). -/

namespace Sys2Proof.Machine

/-- Settles O44: the runs by induction on the samples, then a reference period and an adoption by channel. -/
theorem filterTakesSettledRuns : Obligations.FilterTakesSettledRuns := by
  refine ⟨fun f n acc l p ps hacc hl hrun hdue => ?settled, fun f n l p ps hacc hrun hdue hn => ?unsettled,
    fun s c cfg ch hcfg hch => ?period, fun s a => ⟨rfl, sampledAfterAdoption_restamped a s⟩⟩
  case settled =>
    intro g
    have hg : g = f.samples n l (p :: ps) := rfl
    refine ⟨fun hn => ?_, fun hn => ?_⟩
    · rw [hg, Filter.samples_complete_settled p ps hacc hl hrun hn]
      exact ⟨rfl, rfl, rfl, rfl, hacc⟩
    · have hother : f.accepted ≠ some l := by simpa [hacc] using hl.symm
      rw [hg, Filter.samples_short p ps hother hrun hn]
      refine ⟨hdue, hacc, rfl, rfl, rfl, fun k t => ?_⟩
      rw [Filter.sample_accepted n k t (by exact hacc)]
      exact ⟨rfl, hdue⟩
  case unsettled =>
    rw [← hdue]
    exact Filter.samples_complete_unsettled p ps hacc hrun hn
  case period =>
    have hself : (capturePeriod s c).channels[c]? =
        some (ch.period (.capture cfg) s.timebase.stepNo s.timebase.nt (lineLevel s c)) := by
      rw [capturePeriod_channels, tableUpdate_get_self, hch, hcfg, Option.map_some]
    refine ⟨capturePeriod_eq s c, fun j hj => ?_, fun hp => ?_, fun hp => ?_⟩
    · rw [capturePeriod_channels, tableUpdate_get_ne _ _ _ _ hj]
    · rw [hself, Channel.period_count _ _ _ hp]
    · rw [hself, Channel.period_sample _ _ _ hp]; rfl

/-- Settles O43: the edge by the edge select and the prescaler, the mark by the trust in the station's time. -/
theorem edgeMakesMark : Obligations.EdgeMakesMark := by
  intro s c b cfg ch hcfg hch hdue edge qualifies ch1 only
  have hexec : exec (.edgeAccepted c b) s = .next (takeEdgeOf c cfg b ch s) :=
    congrArg Host.Outcome.next (takeEdge_due b hcfg hch hdue)
  have hqualifies : edgeQualifies cfg.edgeSel (edgeTo ch.filter.candidate) = true ↔ qualifies := edgeQualifies_iff _ _
  have honly (f : Channel → Channel) : only (channelUpdate c f s) (f ch) := channelUpdate_only f hch
  rw [hexec]
  refine ⟨fun hq => ?unqualified, fun hq hp => ?heldBack, fun hq hp => ?marks⟩
  case unqualified =>
    have hnot := Bool.eq_false_iff.2 (mt hqualifies.1 hq)
    exact ⟨_, honly Channel.accept, congrArg Host.Outcome.next (takeEdgeOf_unqualified c b s hnot)⟩
  case heldBack =>
    exact ⟨_, honly fun ch => { ch.accept with prescale := ch.prescale + 1 },
      congrArg Host.Outcome.next (takeEdgeOf_heldBack c b s (hqualifies.2 hq) hp)⟩
  case marks =>
    intro trusts mark ch2
    have htrusts : trusted s.timebase.sync = true ↔ trusts := trusted_eq _
    have hmark : newMark c ch s = mark (!trusted s.timebase.sync) := rfl
    rw [takeEdgeOf_marks c b s (hqualifies.2 hq) hp, hmark]
    refine ⟨fun ht => ?_, fun ht => ?_⟩
    · rw [Bool.eq_false_iff.2 (mt htrusts.1 ht)]
      exact ⟨_, honly fun x => x.accept.marked (mark true),
        congrArg Host.Outcome.next (deliverMark_unsynced cfg c b _ rfl)⟩
    · rw [htrusts.2 ht]
      exact ⟨_, honly fun x => x.accept.marked (mark false),
        congrArg Host.Outcome.next (deliverMark_synced cfg c b _ rfl)⟩

end Sys2Proof.Machine
end

section
/-! SUPPORT. What a ring makes of a record that it is handed (R82, R83, R85). -/

namespace Sys2Proof.Machine

variable {s t : State} {k : Nat} {r : Ring} {octets : Nat → List Octet}

theorem mask_ringLow : Cause.mask .ringLow = 0x100 := by decide
theorem mask_ringLost : Cause.mask .ringLost = 0x200 := by decide

theorem lt_of_ringAt (h : ringAt s k = some r) : k < 8 := by
  by_contra hk
  simp [ringAt, hk] at h

/-- A ring that is not full after it has taken a record (R82, R85). -/
def Ring.written (r : Ring) : Ring :=
  { r with
    count := r.count + 1, pendingLoss := 0
    lowRoom := r.lowRoom || decide (r.defn.length - (r.count + 1) ≤ r.defn.low) }

/-- A full ring after it has dropped a record (R83). -/
def Ring.dropped (r : Ring) : Ring :=
  { r with pendingLoss := satAdd16 r.pendingLoss 1, totalLost := satAdd32 r.totalLost 1, lossReported := true }

/-- Another ring in the place of ring k. -/
def Journal.withRing (k : Nat) (r : Ring) (j : Journal) : Journal :=
  { j with rings := tableUpdate j.rings k fun _ => some r }

/-- A record in the journal memory, at the position after those that a ring holds. -/
def Journal.withRecord (r : Ring) (record : List Octet) (j : Journal) : Journal :=
  { j with mem := Memory.writeAll j.mem (16 * r.place r.writeIdx) record }

/-- What is read after a record has been put into its place (R76). -/
theorem Journal.read_withRecord {j : Journal} {record : List Octet} (hwf : Memory.wf j.mem) (hlen : record.length = 16)
    (a : Nat) : Memory.read (j.withRecord r record).mem a =
      if 16 * r.place r.writeIdx ≤ a ∧ a < 16 * r.place r.writeIdx + 16 then
        octetAt record (a - 16 * r.place r.writeIdx)
      else Memory.read j.mem a := by
  have hread := Memory.read_writeAll a record j.mem (16 * r.place r.writeIdx) hwf
  rwa [hlen] at hread

/-- The rings of a journal in which another ring has taken the place of ring k. -/
theorem ringAt_of_withRing {u : Journal} (hk : k < 8) (h : t.journal = u.withRing k r) (j : Nat)
    (hu : u.rings = s.journal.rings := by rfl) : ringAt t j = if j = k then some r else ringAt s j := by
  have hset := ringAt_setRing k j r s
  simp only [hk, and_true] at hset
  rw [← hset, ringAt, ringAt, h, Journal.withRing, hu]
  rfl

theorem takeRecord_undefined (h : ringAt s k = none) : takeRecord k octets s = s := by
  rw [takeRecord, h]

/-- A ring that is not full takes a record at the position after those it holds (R82). -/
theorem takeRecord_written_journal (hr : ringAt s k = some r) (hfree : r.count < r.defn.length) :
    (takeRecord k octets s).journal =
      (s.journal.withRecord r (octets (min r.pendingLoss.toNat 255))).withRing k r.written := by
  rw [takeRecord, hr]
  simp only [if_pos hfree, writeRecord]
  split <;> rfl

/-- RING_LOW is raised when the record brings the low-room flag (R85). -/
theorem takeRecord_written_notice (hr : ringAt s k = some r) (hfree : r.count < r.defn.length) :
    (takeRecord k octets s).notice =
      if r.lowRoom = false ∧ r.defn.length - (r.count + 1) ≤ r.defn.low then (raise .ringLow s).notice
      else s.notice := by
  rw [takeRecord, hr]
  simp only [if_pos hfree, writeRecord, Ring.free]
  cases hlow : r.lowRoom <;> by_cases hroom : r.defn.length - (r.count + 1) ≤ r.defn.low <;> simp [hroom, raise, setRing]

/-- A full ring drops a record (R83). -/
theorem takeRecord_dropped_journal (hr : ringAt s k = some r) (hfull : r.defn.length ≤ r.count) :
    (takeRecord k octets s).journal = s.journal.withRing k r.dropped := by
  rw [takeRecord, hr]
  simp only [if_neg (Nat.not_lt.2 hfull), dropRecord]
  split <;> rfl

/-- RING_LOST is raised when the ring's loss-reported flag was clear (R83). -/
theorem takeRecord_dropped_notice (hr : ringAt s k = some r) (hfull : r.defn.length ≤ r.count) :
    (takeRecord k octets s).notice = if r.lossReported then s.notice else (raise .ringLost s).notice := by
  rw [takeRecord, hr]
  simp only [if_neg (Nat.not_lt.2 hfull), dropRecord]
  split <;> rfl

/-- A ring after the release of its n oldest records, none of them included (R89). -/
def Ring.freed (n : Nat) (r : Ring) : Ring :=
  { r with
    readIdx := (r.readIdx + n) % r.defn.length, count := r.count - n
    lowRoom := r.lowRoom && decide (r.defn.length - (r.count - n) ≤ r.defn.low) }

/-- In a good ring the release of no record is no exception: it leaves the ring as it is. -/
theorem Ring.released_eq_freed {n : Nat} (h : r.good) : r.released n = r.freed n := by
  unfold Ring.released
  split
  · next hn =>
    obtain ⟨-, -, -, hread, -, hroom⟩ := h
    have hlow : (r.lowRoom && decide (r.defn.length - r.count ≤ r.defn.low)) = r.lowRoom := by
      rw [Bool.and_eq_left_iff_imp, decide_eq_true_eq]
      exact hroom.1
    rw [hn, Ring.freed, Nat.add_zero, Nat.mod_eq_of_lt hread, Nat.sub_zero, hlow]
  · rfl

end Sys2Proof.Machine
end

section
/-! SETTLED. A ring takes a record, or drops it when full (O18). -/

namespace Sys2Proof.Machine

/-- Settles O18: the journal and the notices after the record, in a ring that is not full and in a full one. -/
theorem ringTakesRecord : Obligations.RingTakesRecord := by
  refine ⟨?written, ?dropped⟩
  case written =>
    intro s k r octets hr hfree hlen hwf place t
    have hjournal : t.journal = _ := takeRecord_written_journal hr hfree
    have hnotice : t.notice = _ := takeRecord_written_notice hr hfree
    have hring := ringAt_of_withRing (s := s) (lt_of_ringAt hr) hjournal
    have hread (a : Nat) : Memory.read t.journal.mem a =
        if 16 * place ≤ a ∧ a < 16 * place + 16 then octetAt (octets (min r.pendingLoss.toNat 255)) (a - 16 * place)
        else Memory.read s.journal.mem a := by
      rw [hjournal]
      exact Journal.read_withRecord hwf (hlen _) a
    refine ⟨(hring k).trans (if_pos rfl), fun o ho => ?_, fun a ha => ?_, fun j hj => (hring j).trans (if_neg hj),
      (congrArg Journal.discarded hjournal :), ?_⟩
    · rw [hread, if_pos (by omega), Nat.add_sub_cancel_left]
    · rw [hread, if_neg (by omega)]
    · rw [hnotice, ← mask_ringLow]
      split <;> rfl
  case dropped =>
    intro s k r octets hr hfull t
    have hjournal : t.journal = _ := takeRecord_dropped_journal hr hfull
    have hnotice : t.notice = _ := takeRecord_dropped_notice hr hfull
    have hring := ringAt_of_withRing (s := s) (lt_of_ringAt hr) hjournal
    refine ⟨(hring k).trans (if_pos rfl), (congrArg Journal.mem hjournal :), fun j hj => (hring j).trans (if_neg hj),
      ?_, ?_⟩
    all_goals
      rw [hnotice, ← mask_ringLost]
      split <;> rfl

end Sys2Proof.Machine
end

section
/-! SUPPORT. The journal memory, the rings and the notice sets: what every operation keeps of their form (R75, R76, R85,
R192). -/

namespace Sys2Proof.Machine

variable {s t : State}

/-! ### What is kept -/

/-- The journal memory is canonical, the loaded profile is a judged one, every ring is good, and the notice sets name the
fifteen causes only (R75, R76, R187, R192). -/
def State.inForm (s : State) : Prop := s.memoryCanonical ∧ s.profileKept ∧ s.ringsGood ∧ s.noticesNamed

/-- The form is read from the journal, the notice unit, the profile and the port's loaded profile alone. -/
theorem State.inForm.congr (h : s.inForm) (hjournal : t.journal = s.journal := by simp)
    (hnotice : t.notice = s.notice := by simp) (hprofile : t.profile = s.profile := by simp)
    (hloaded : t.port.loaded = s.port.loaded := by simp) (hstarted : t.port.started = s.port.started := by simp) :
    t.inForm := by
  obtain ⟨hm, hp, hr, hn⟩ := h
  refine ⟨?_, ?_, fun k r => ?_, ?_⟩
  · rwa [State.memoryCanonical, hjournal]
  · rwa [State.profileKept, hprofile, hloaded, hstarted]
  · rw [ringAt_congr hjournal]; exact hr k r
  · rwa [State.noticesNamed, hnotice]

theorem inForm_ite {p : Prop} [Decidable p] (hs : s.inForm) (ht : t.inForm) : (if p then s else t).inForm := by
  split <;> assumption

theorem inForm_reset : State.reset.inForm := by
  refine ⟨⟨by decide, by decide⟩, ⟨fun os hos => ?_, fun hs => ?_⟩, fun k r hr => ?_, ⟨rfl, rfl, rfl, rfl⟩⟩
  · cases hos
  · cases hs
  · have hk := lt_of_ringAt hr
    simp [ringAt, State.reset, Journal.reset, hk] at hr

/-- No cause has bit 15 (R192). -/
theorem mask_bit15 (c : Cause) : c.mask.getLsbD 15 = false := by cases c <;> decide

theorem noticesNamed_raise (c : Cause) (h : s.noticesNamed) : (raise c s).noticesNamed := by
  obtain ⟨hp, hr, hreported, hmask⟩ := h
  simp only [State.noticesNamed, raise_frame, BitVec.getLsbD_or, hp, hr, hreported, hmask, mask_bit15, Bool.or_self,
    and_self]

@[simp] theorem inForm_raise (c : Cause) (h : s.inForm) : (raise c s).inForm := by
  obtain ⟨hm, hp, hr, hn⟩ := h
  exact ⟨hm, hp, hr, noticesNamed_raise c hn⟩

/-! ### Rings (R82, R83) -/

/-- A ring that is not full stays good when it takes a record: the low-room flag follows the free places (R85). -/
theorem Ring.good.written {r : Ring} (h : r.good) (hfree : r.count < r.defn.length) : r.written.good := by
  obtain ⟨hlen, hplace, hlow, hread, -, hroom⟩ := h
  refine ⟨hlen, hplace, hlow, hread, hfree, ?_⟩
  simp only [Ring.free] at hroom
  simp only [Ring.written, Ring.free, Bool.or_eq_true, hroom, decide_eq_true_eq]
  omega

theorem Ring.good.dropped {r : Ring} (h : r.good) : r.dropped.good := h

/-- A release keeps a ring good (R85, R89). -/
theorem Ring.good.released {r : Ring} {n : Nat} (h : r.good) : (r.released n).good := by
  rw [Ring.released_eq_freed h]
  obtain ⟨hlen, hplace, hlow, hread, hcount, hroom⟩ := h
  refine ⟨hlen, hplace, hlow, Nat.mod_lt _ (by omega), (Nat.sub_le _ _).trans hcount, ?_⟩
  simp only [Ring.free] at hroom
  simp only [Ring.freed, Ring.free, Bool.and_eq_true, hroom, decide_eq_true_eq]
  omega

/-- Every ring is good after a good ring has taken the place of ring k. -/
theorem ringsGood_withRing {u : Journal} {k : Nat} {r : Ring} (hk : k < 8) (hr : r.good) (ht : t.journal = u.withRing k r)
    (hu : u.rings = s.journal.rings) (h : s.ringsGood) : t.ringsGood := by
  intro j q hq
  rw [ringAt_of_withRing hk ht j hu] at hq
  split at hq
  · cases hq; exact hr
  · exact h j q hq

/-- A record of 16 octets keeps the memory canonical and inside its places (R75, R82). -/
theorem memoryCanonical_withRecord {r : Ring} {record : List Octet} (hlen : record.length = 16)
    (ht : t.journal.mem = (s.journal.withRecord r record).mem) (h : s.memoryCanonical) : t.memoryCanonical := by
  obtain ⟨hwf, hinside⟩ := h
  have hplace : r.place r.writeIdx < 2048 := Nat.mod_lt _ (by decide)
  rw [State.memoryCanonical, ht]
  refine ⟨Memory.writeAll_wf _ _ _ hwf, fun c hc => ?_⟩
  rcases Memory.writeAll_addresses _ _ _ c hc with hnew | hold
  · omega
  · exact hinside c hold

/-- A record of 16 octets handed to a ring (R82, R83). -/
theorem inForm_takeRecord (k : Nat) {octets : Nat → List Octet} (hlen : ∀ n, (octets n).length = 16) (h : s.inForm) :
    (takeRecord k octets s).inForm := by
  cases hr : ringAt s k with
  | none => rwa [takeRecord_undefined hr]
  | some r =>
    obtain ⟨hm, hp, hg, hn⟩ := h
    have hk := lt_of_ringAt hr
    have hkept : (takeRecord k octets s).profileKept := by simpa [State.profileKept] using hp
    rcases Nat.lt_or_ge r.count r.defn.length with hfree | hfull
    · have hjournal := takeRecord_written_journal (octets := octets) hr hfree
      refine ⟨memoryCanonical_withRecord (hlen _) (congrArg Journal.mem hjournal :) hm, hkept,
        ringsGood_withRing hk ((hg k r hr).written hfree) hjournal rfl hg, ?_⟩
      rw [State.noticesNamed, takeRecord_written_notice hr hfree]
      split
      · exact noticesNamed_raise _ hn
      · exact hn
    · have hjournal := takeRecord_dropped_journal (octets := octets) hr hfull
      have hmem : (takeRecord k octets s).journal.mem = s.journal.mem := by rw [hjournal]; rfl
      refine ⟨by rwa [State.memoryCanonical, hmem], hkept, ringsGood_withRing hk (hg k r hr).dropped hjournal rfl hg, ?_⟩
      rw [State.noticesNamed, takeRecord_dropped_notice hr hfull]
      split
      · exact hn
      · exact noticesNamed_raise _ hn

@[simp] theorem le_length (k n : Nat) : (le k n).length = k := by
  induction k generalizing n with
  | zero => rfl
  | succ k ih => rw [le, List.length_cons, ih]

@[simp] theorem markRecord_length (m : Mark) (b : Bool) (lost : Nat) : (markRecord m b lost).length = 16 := by
  simp [markRecord, zeros]

@[simp] theorem reportRecord_length (r : ReportRecord) (lost : Nat) : (reportRecord r lost).length = 16 := by
  simp [reportRecord]

@[simp] theorem inForm_journalLocalMark (ring : Option Nat) (m : Mark) (h : s.inForm) :
    (journalLocalMark ring m s).inForm := by
  cases ring with
  | none => exact h
  | some k => exact inForm_takeRecord k (markRecord_length m false) h

@[simp] theorem inForm_journalPeerMark (m : Mark) (h : s.inForm) : (journalPeerMark m s).inForm := by
  rw [journalPeerMark_eq]
  exact foldl_inv (fun _ k => inForm_takeRecord k (markRecord_length m true)) _ s h

@[simp] theorem inForm_journalReport (r : ReportRecord) (h : s.inForm) : (journalReport r s).inForm := by
  unfold journalReport
  split
  · exact h
  · next k _ =>
    have htaken : (takeRecord k (reportRecord r) s).inForm := inForm_takeRecord k (reportRecord_length r) h
    exact inForm_ite (inForm_raise _ htaken) htaken

/-! ### The send queue and the armed list -/

@[simp] theorem inForm_offerReport (r : ReportItem) (h : s.inForm) : (offerReport r s).inForm := by
  unfold offerReport
  split
  · exact h.congr
  · exact inForm_raise _ (h.congr rfl rfl)

@[simp] theorem inForm_offerMark (c : Nat) (m : Mark) (h : s.inForm) : (offerMark c m s).inForm := by
  unfold offerMark
  split
  · exact h.congr
  · exact inForm_raise _ (h.congr rfl rfl)

@[simp] theorem inForm_setEntry (i : Nat) (e : Option Entry) (h : s.inForm) : (setEntry i e s).inForm := h.congr

@[simp] theorem inForm_endEntry (i : Nat) (code : Octet) (d : Option Word16) (h : s.inForm) :
    (endEntry i code d s).inForm := by
  simp only [endEntry]
  repeat' split
  all_goals simp [h]

@[simp] theorem inForm_requestLevel (c : Nat) (r : LevelReq) (h : s.inForm) : (requestLevel c r s).inForm := h.congr

@[simp] theorem inForm_completeFire (i : Nat) (e : Entry) (due : NT) (h : s.inForm) : (completeFire i e due s).inForm := by
  simp only [completeFire]
  repeat' split
  all_goals simp [h]

@[simp] theorem inForm_fireEntry (i : Nat) (e : Entry) (due : NT) (h : s.inForm) : (fireEntry i e due s).inForm := by
  simp only [fireEntry]
  repeat' split
  all_goals simp [h]

@[simp] theorem inForm_takeFire (h : s.inForm) : (takeFire s).inForm := by
  unfold takeFire
  split <;> simp [h]

@[simp] theorem inForm_takePulseEnd (i : Nat) (h : s.inForm) : (takePulseEnd i s).inForm := by
  have hend (e : Entry) (ends : NT) (c : Bool) : (endPulse i e ends c s).inForm := by
    simp only [endPulse]
    repeat' split
    all_goals simp [h]
  unfold takePulseEnd
  repeat' split
  all_goals simp [h, hend]

@[simp] theorem inForm_takeExpiry (i : Nat) (h : s.inForm) : (takeExpiry i s).inForm := by
  unfold takeExpiry
  repeat' split
  all_goals simp [h]

@[simp] theorem inForm_takeMark (m : Mark) (h : s.inForm) : (takeMark m s).inForm := by
  refine foldl_inv (fun u i hu => ?_) _ s h
  simp only [matchEntry]
  repeat' split
  all_goals simp [hu]

@[simp] theorem inForm_cancelEntry (i : Nat) (h : s.inForm) : (cancelEntry i s).inForm := by
  unfold cancelEntry
  repeat' split
  all_goals simp [h]

@[simp] theorem inForm_takeArmItem (requester : Nat) (tag : Octet) (c : Nat) (f : ArmFields) (h : s.inForm) :
    (takeArmItem requester tag c f s).inForm := by
  have harm : (armRemotely requester tag c f s).1.inForm := by
    unfold armRemotely
    repeat' split
    all_goals exact h
  exact inForm_offerReport _ harm

@[simp] theorem inForm_takeCancelItem (requester : Nat) (tag : Octet) (h : s.inForm) :
    (takeCancelItem requester tag s).inForm := by
  unfold takeCancelItem
  split <;> simp [h]

/-! ### The outbound table -/

@[simp] theorem inForm_setRecord (place : Nat) (r : Option OutRecord) (h : s.inForm) : (setRecord place r s).inForm :=
  h.congr

@[simp] theorem inForm_completeRecord (place : Nat) (code : Octet) (x : Carried) (h : s.inForm) :
    (completeRecord place code x s).inForm := by
  unfold completeRecord
  split <;> simp [h]

@[simp] theorem inForm_completeWhere (p : OutRecord → Bool) (code : Octet) (h : s.inForm) :
    (completeWhere p code s).inForm :=
  foldl_inv (fun _ place => inForm_completeRecord place code Carried.nothing) _ s h

@[simp] theorem inForm_takeReportItem (station : Nat) (r : ReportItem) (h : s.inForm) :
    (takeReportItem station r s).inForm := by
  have hunsolicited : (writeUnsolicited station r s).inForm := inForm_journalReport _ h
  simp only [takeReportItem, answerRecord]
  repeat' split
  all_goals simp [h, hunsolicited]

@[simp] theorem inForm_requestsRoundStart (order : RoundOrder) (lost : List Nat) (h : s.inForm) :
    (requestsRoundStart order lost s).inForm := by
  have hstart {u : State} (hu : u.inForm) : (requestRoundStart u).inForm :=
    inForm_ite (inForm_completeWhere _ _ hu) hu
  have hlost {u : State} (hu : u.inForm) : (lost.foldl (fun s k => takePeerLost k s) u).inForm :=
    foldl_inv (fun _ k => inForm_completeWhere (OutRecord.orphanedBy k) Code.orphaned) lost u hu
  exact inForm_ite (hstart (hlost h)) (hlost (hstart h))

/-! ### The hold unit and the cycle unit -/

@[simp] theorem inForm_holdUpdate (f : HoldUnit → HoldUnit) (h : s.inForm) : (holdUpdate f s).inForm := h.congr

@[simp] theorem inForm_cycleUpdate (f : CycleUnit → CycleUnit) (h : s.inForm) : (cycleUpdate f s).inForm := h.congr

@[simp] theorem inForm_enterHeld (h : s.inForm) : (enterHeld s).inForm := by
  have hforced {f : HoldUnit → HoldUnit} : (forceAll (holdUpdate f s)).inForm := h.congr
  have haction {u : State} (hu : u.inForm) : (actionEntersHeld u).inForm :=
    foldl_inv (fun _ i => inForm_endEntry i Code.blocked none) _ _ (hu.congr rfl rfl)
  have hcycle {u : State} (hu : u.inForm) : (cycleEntersHeld u).inForm := inForm_cycleUpdate _ hu
  exact inForm_raise _ (hcycle (haction hforced))

@[simp] theorem inForm_addReason (r : Reason) (h : s.inForm) : (addReason r s).inForm := by
  simp only [addReason]
  split <;> simp [h]

@[simp] theorem inForm_removeReason (r : Reason) (h : s.inForm) : (removeReason r s).inForm := h.congr

@[simp] theorem inForm_holdRoundStart (h : s.inForm) : (holdRoundStart s).inForm := by
  have hreleased {f : HoldUnit → HoldUnit} : (releaseAll (holdUpdate f s)).inForm := h.congr
  have hleft {u : State} (hu : u.inForm) : (cycleLeavesHeld (actionLeavesHeld u)).inForm :=
    inForm_cycleUpdate _ (hu.congr rfl rfl)
  exact inForm_ite (inForm_raise _ (hleft hreleased)) h

@[simp] theorem inForm_holdTakesSync (h : s.inForm) : (holdTakesSync s).inForm := by
  unfold holdTakesSync
  repeat' split
  all_goals simp [h]

@[simp] theorem inForm_takeHoldLine (h : s.inForm) : (takeHoldLine s).inForm := by
  simp only [takeHoldLine]
  repeat' split
  all_goals simp [h]

@[simp] theorem inForm_propose (round : Word16) (h : s.inForm) : (propose round s).inForm := by
  unfold propose
  repeat' split
  all_goals simp [h]

@[simp] theorem inForm_outputsRoundStart (order : ReleaseOrder) (h : s.inForm) : (outputsRoundStart order s).inForm := by
  have hcycle {u : State} (hu : u.inForm) : (cycleRoundStart u).inForm := by
    have hdue : (takeDueCyclic u).inForm := hu.congr
    have hswap : (takeSwap (takeDueCyclic u)).inForm := by
      unfold takeSwap
      repeat' split
      all_goals simp [hdue]
    exact inForm_ite (inForm_cycleUpdate _ hswap) (inForm_cycleUpdate _ hswap)
  cases order with
  | releaseFirst => exact hcycle (inForm_holdRoundStart h)
  | roundStartFirst fires => exact inForm_holdRoundStart ((hcycle h).congr)

/-! ### The timebase -/

@[simp] theorem inForm_timeUpdate (f : Timebase → Timebase) (h : s.inForm) : (timeUpdate f s).inForm := h.congr

@[simp] theorem inForm_roundCtlUpdate (f : RoundCtl → RoundCtl) (h : s.inForm) : (roundCtlUpdate f s).inForm := h.congr

@[simp] theorem inForm_enterSync (y : Sync) (h : s.inForm) : (enterSync y s).inForm :=
  inForm_holdTakesSync (inForm_raise _ (inForm_timeUpdate _ h))

@[simp] theorem inForm_fallToListen (order : RoundOrder) (cause : Option Cause) (h : s.inForm) :
    (fallToListen order cause s).inForm := by
  have hfalls : (raise .syncChange (timebaseFalls s)).inForm := inForm_raise _ (inForm_timeUpdate _ h)
  have hpeers {u : State} (hu : u.inForm) : (cycleEntersListen (peersAbsent u)).inForm :=
    inForm_cycleUpdate _ (inForm_roundCtlUpdate _ hu)
  have hpurge {b : Bool} {u : State} (hu : u.inForm) : (if b then purgeQueue u else u).inForm := inForm_ite hu.congr hu
  have hpurged {b : Bool} {u : State} (hu : u.inForm) : (if b then u else purgeQueue u).inForm := inForm_ite hu hu.congr
  have hfall {u : State} (hu : u.inForm) : (requestFalls s.timebase.sync u).inForm :=
    inForm_ite (inForm_completeWhere _ _ hu) hu
  have hrest {u : State} (hu : u.inForm) := hpurged (b := order.purgeFirst)
    (inForm_ite (p := order.recordsFirst = true) hu (hfall hu))
  have hbegun {u : State} (hu : u.inForm) := hpurge (b := order.purgeFirst) (hpeers hu)
  have hheld {u : State} (hu : u.inForm) := inForm_holdTakesSync (inForm_ite (p := order.recordsFirst = true) (hfall hu) hu)
  cases cause with
  | none => exact hrest (hheld (hbegun hfalls))
  | some c => exact hrest (hheld (hbegun (inForm_raise c hfalls)))

@[simp] theorem inForm_coldstartFails (order : RoundOrder) (h : s.inForm) : (coldstartFails order s).inForm :=
  inForm_fallToListen _ _ (inForm_timeUpdate _ h)

@[simp] theorem inForm_coldstartDisturbed (h : s.inForm) : (coldstartDisturbed s).inForm := by
  unfold coldstartDisturbed
  split <;> simp [h]

@[simp] theorem inForm_takeListenExpiry (h : s.inForm) : (takeListenExpiry s).inForm := by
  unfold takeListenExpiry
  split
  · exact inForm_ite (inForm_enterSync _ (inForm_roundCtlUpdate _ (inForm_timeUpdate _ h))) h
  all_goals exact h

@[simp] theorem inForm_roundTransition (order : RoundOrder) (c : Int) (refs naming : Nat) (h : s.inForm) :
    (roundTransition order c refs naming s).inForm := by
  have htime {f : Timebase → Timebase} : (timeUpdate f s).inForm := inForm_timeUpdate f h
  have hsynced {u : State} (hu : u.inForm) : (enterSynced u).inForm := inForm_enterSync _ (inForm_timeUpdate _ hu)
  simp only [roundTransition, coldstartRoundEnd, joiningRoundEnd, syncedRoundEnd, holdoverRoundEnd]
  repeat' split
  all_goals simp [h, htime, hsynced]

@[simp] theorem inForm_startRound (order : RoundOrder) (y : Sync) (c : Int) (refs : Nat) (h : s.inForm) :
    (startRound order y c refs s).inForm := by
  have hsilence {u : State} (k : Nat) (hu : u.inForm) : (countSilence u k).inForm :=
    inForm_ite hu (inForm_ite (inForm_raise _ (inForm_roundCtlUpdate _ hu)) (inForm_roundCtlUpdate _ hu))
  have hpeers {u : State} (hu : u.inForm) : (peersRoundStart u).inForm :=
    inForm_roundCtlUpdate _ (foldl_inv (fun _ k => hsilence k) _ u hu)
  exact inForm_outputsRoundStart _ (inForm_requestsRoundStart _ _ (hpeers (inForm_timeUpdate _ h)))

@[simp] theorem inForm_takeRoundEnd (order : RoundOrder) (h : s.inForm) : (takeRoundEnd order s).inForm := by
  have hmoves := inForm_roundTransition order (roundCorrection s.timebase) (roundRefs s.timebase)
    (roundNaming s.timebase) (inForm_timeUpdate recordRound h)
  exact inForm_ite (inForm_ite (inForm_startRound _ _ _ _ hmoves) hmoves) h

@[simp] theorem inForm_takeRoundEnds (h : s.inForm) : (takeRoundEnds s).inForm := by
  rw [takeRoundEnds, endRounds_eq]
  exact Function.Iterate.rec State.inForm h (fun _ => inForm_takeRoundEnd _) _

@[simp] theorem inForm_joinFrame (after : Octet) (round : Word16) (rs : NT) (sender : Nat) (observed : NT) (h : s.inForm) :
    (joinFrame after round rs sender observed s).inForm := by
  have hadopt : (adopt round rs sender observed s).inForm :=
    inForm_raise _ (inForm_roundCtlUpdate _ (inForm_timeUpdate _ h))
  exact inForm_enterSync _ (inForm_timeUpdate _ (hadopt.congr rfl rfl))

/-! ### The round controller -/

@[simp] theorem inForm_takeCollision (h : s.inForm) : (takeCollision s).inForm := by
  have hended {f : RoundCtl → RoundCtl} : (endOwnFrame (roundCtlUpdate f s)).inForm :=
    inForm_roundCtlUpdate _ (inForm_roundCtlUpdate _ h)
  unfold takeCollision
  repeat' split
  all_goals simp [h, hended]

@[simp] theorem inForm_peerUpdate (k : Nat) (f : Peer → Peer) (h : s.inForm) : (peerUpdate k f s).inForm :=
  inForm_ite (inForm_roundCtlUpdate _ h) h

@[simp] theorem inForm_countAttributed (r : Reception) (f : Peer → Peer) (h : s.inForm) :
    (countAttributed r f s).inForm := by
  have hfree : ({ s with freeCount := s.freeCount + 1 } : State).inForm := h.congr rfl rfl
  simp only [countAttributed]
  repeat' split
  all_goals simp [h, hfree]

@[simp] theorem inForm_endReception (h : s.inForm) : (endReception s).inForm := inForm_roundCtlUpdate _ h

@[simp] theorem inForm_takeGarbled (r : Reception) (h : s.inForm) : (takeGarbled r s).inForm :=
  inForm_coldstartDisturbed (inForm_countAttributed _ _ h)

@[simp] theorem inForm_peerHeard (f : Frame) (d : Int) (h : s.inForm) : (peerHeard f d s).inForm :=
  inForm_ite (inForm_raise _ (inForm_peerUpdate _ _ (inForm_roundCtlUpdate _ h)))
    (inForm_peerUpdate _ _ (inForm_roundCtlUpdate _ h))

@[simp] theorem inForm_handItem (sender : Nat) (i : Item) (h : s.inForm) : (handItem sender s i).inForm := by
  unfold handItem
  repeat' split
  all_goals simp [h]

/-- Peer upkeep, deviation, swap field and items of a valid frame (R55, R59). -/
@[simp] theorem inForm_takeValid (r : Reception) (f : Frame) (h : s.inForm) : (takeValid r f s).inForm := by
  have hdeviation {u : State} (hu : u.inForm) : (handDeviation r f u).inForm := inForm_ite (inForm_timeUpdate _ hu) hu
  have hswap {u : State} (hu : u.inForm) : (handSwapField f u).inForm := by
    unfold handSwapField
    repeat' split
    all_goals simp [hu]
  have hitems {u : State} (hu : u.inForm) : (handItems f u).inForm :=
    inForm_ite (foldl_inv (fun _ i => inForm_handItem f.sender i) _ u hu) hu
  exact hitems (hswap (hdeviation (inForm_peerHeard _ _ h)))

@[simp] theorem inForm_takeChecked (after : Octet) (r : Reception) (f : Frame) (h : s.inForm) :
    (takeChecked after r f s).inForm := by
  have hlisten : (takeInListen after r f s).inForm := inForm_ite (inForm_joinFrame _ _ _ _ _ h) (inForm_timeUpdate _ h)
  have hfree : (joiningState r s).inForm := inForm_ite h (h.congr rfl rfl)
  have hjoin : (takeForJoining after r f s).inForm := inForm_joinFrame _ _ _ _ _ (inForm_peerHeard _ _ hfree)
  have hround : (takeInRound r f s).inForm := by
    unfold takeInRound
    repeat' split
    all_goals simp [h]
  unfold takeChecked
  repeat' split
  all_goals simp [h, hlisten, hjoin, hround]

@[simp] theorem inForm_takeComplete (octets : List Octet) (after : Octet) (r : Reception) (h : s.inForm) :
    (takeComplete octets after r s).inForm := by
  have hended : (endReception s).inForm := inForm_endReception h
  simp only [takeComplete, takeFrame]
  repeat' split
  all_goals simp [hended]

@[simp] theorem inForm_takeFrameComplete (octets : List Octet) (after : Octet) (h : s.inForm) :
    (takeFrameComplete octets after s).inForm := by
  unfold takeFrameComplete
  split <;> simp [h]

@[simp] theorem inForm_takeFrameFailed (h : s.inForm) : (takeFrameFailed s).inForm := by
  unfold takeFrameFailed
  split <;> simp [h]

@[simp] theorem inForm_takeLineIdle (h : s.inForm) : (takeLineIdle s).inForm := by
  unfold takeLineIdle
  repeat' split
  all_goals simp [h]

/-! ### Edges -/

@[simp] theorem inForm_channelUpdate (c : Nat) (f : Channel → Channel) (h : s.inForm) : (channelUpdate c f s).inForm :=
  h.congr

@[simp] theorem inForm_deliverMark (g : CaptureCfg) (c : Nat) (b : Bool) (m : Mark) (h : s.inForm) :
    (deliverMark g c b m s).inForm := by
  have hpublish {u : State} (hu : u.inForm) : (publishMark g c m u).inForm := inForm_ite (inForm_offerMark _ _ hu) hu
  have hmatch {u : State} (hu : u.inForm) : (matchMark m u).inForm := inForm_ite hu (inForm_takeMark _ hu)
  have hjournal : (journalLocalMark g.ring m s).inForm := inForm_journalLocalMark _ _ h
  exact inForm_ite (hpublish (hmatch hjournal)) (hmatch (hpublish hjournal))

@[simp] theorem inForm_takeEdge (c : Nat) (b : Bool) (h : s.inForm) : (takeEdge c b s).inForm := by
  have haccepted {f : Channel → Channel} : (channelUpdate c f s).inForm := inForm_channelUpdate c f h
  simp only [takeEdge, takeEdgeOf]
  repeat' split
  all_goals simp [h, haccepted]

/-! ### The step -/

/-- What the port drives on SDO does not bear on the profile that it has loaded. -/
@[simp] theorem takeAnswerReady_loaded (b : Bool) (s : State) :
    (takeAnswerReady b s).port.loaded = s.port.loaded ∧ (takeAnswerReady b s).port.started = s.port.started := by
  unfold takeAnswerReady
  repeat' split
  all_goals simp

@[simp] theorem captureTime_loaded (s : State) :
    (captureTime s).port.loaded = s.port.loaded ∧ (captureTime s).port.started = s.port.started := by
  unfold captureTime
  split <;> simp [Port.capturing]

theorem inForm_drainLines (h : s.inForm) : (drainLines s).inForm := by
  have hanswer : (takeAnswerReady true s).inForm := h.congr
  have hedges : ((List.range 8).foldl (fun s c => takeEdge c false s) (takeAnswerReady true s)).inForm :=
    foldl_inv (fun _ c => inForm_takeEdge c false) _ _ hanswer
  have hsent {u : State} (hu : u.inForm) : (takeFrameSent u).inForm := hu.congr
  simp only [drainLines]
  exact hsent (inForm_takeHoldLine hedges)

theorem inForm_drainCyclicEnds (n : Nat) (h : s.inForm) : (drainCyclicEnds n s).inForm := by
  induction n generalizing s with
  | zero => exact h
  | succ n ih =>
    unfold drainCyclicEnds
    split
    · exact h
    · exact ih h.congr

theorem inForm_drainPulseEnds (h : s.inForm) : (drainPulseEnds s).inForm :=
  inForm_drainCyclicEnds _ (foldl_inv (fun _ i => inForm_takePulseEnd i) _ s h)

theorem inForm_drainActions (h : s.inForm) : (drainActions s).inForm := by
  have hexpiries := foldl_inv (fun _ i => inForm_takeExpiry i) (List.range 48) s h
  have hfires {u : State} (n : Nat) (hu : u.inForm) : (drainFires n u).inForm := by
    rw [drainFires_eq]
    exact Function.Iterate.rec State.inForm hu (fun _ => inForm_takeFire) n
  have hcyclic {u : State} (hu : u.inForm) : (takeDueCyclic u).inForm := hu.congr
  exact hcyclic (hfires _ hexpiries)

theorem inForm_drainDue (h : s.inForm) : (drainDue s).inForm := by
  have hcut {u : State} (hu : u.inForm) : (drainCut u).inForm := by
    unfold drainCut
    split <;> simp [hu]
  have hinstant {u : State} (hu : u.inForm) : (takeSendInstant u).inForm := hu.congr
  have hrounds {u : State} (hu : u.inForm) : (drainRoundEnds u).inForm := inForm_takeRoundEnds (inForm_takeListenExpiry hu)
  have hcapture {u : State} (hu : u.inForm) : (captureTime u).inForm := hu.congr
  exact hcapture (hcut (hinstant (inForm_drainActions (hrounds (inForm_drainPulseEnds (inForm_drainLines h))))))

theorem inForm_newStep (lines : Octet) (hold : Level) (h : s.inForm) : (newStep lines hold s).inForm := by
  rw [newStep_frame]
  exact h.congr rfl rfl

theorem inForm_takePeriod (lines : Octet) (hold : Level) (h : s.inForm) : (takePeriod lines hold s).inForm :=
  inForm_ite h.congr (inForm_newStep lines hold (inForm_drainDue h))

theorem inForm_takeAdjusted (lines : Octet) (hold : Level) (h : s.inForm) : (takeAdjusted lines hold s).inForm :=
  inForm_ite h (inForm_ite (inForm_newStep lines hold (inForm_drainDue h)) h)

end Sys2Proof.Machine
end

section
/-! SUPPORT. What the checks of LOAD_PROFILE give of the rings and the notice mask, and what the commands of the attach port
keep of the journal, the profile and the notices (R187, R188, R189). -/

namespace Sys2Proof.Machine

variable {s t : State}

/-! ### An accepted profile (R188) -/

/-- Every field of an accepted profile is in its range, and every ring lies inside the memory. -/
theorem checks_of_accepted {os : List Octet} (h : profileError os = none) :
    (∀ x ∈ rangeChecks os, x.1 = true) ∧ ringOutside os = none := by
  unfold profileError at h
  split at h
  · cases h
  · next hfind =>
    have hranges : ∀ x ∈ rangeChecks os, x.1 = true := by simpa using List.find?_eq_none.1 hfind
    repeat' split at h
    any_goals (cases h; done)
    next hinside _ _ _ => exact ⟨hranges, hinside⟩

theorem tableOf_get {α : Type} {n i : Nat} (f : Nat → α) (hi : i < n) : (tableOf n f)[i]? = some (f i) := by
  simp [tableOf, hi]

/-- A ring that an accepted profile defines has its length, its threshold and its places in range. -/
theorem ringDefOf_accepted {os : List Octet} {k : Nat} {d : RingDef} (h : profileError os = none) (hk : k < 8)
    (hd : ringDefOf os k = some d) : 4 ≤ d.length ∧ d.base + d.length ≤ 2048 ∧ d.low < d.length := by
  obtain ⟨hranges, hinside⟩ := checks_of_accepted h
  have hrange : ∀ x ∈ ringRange os k, x.1 = true := fun x hx =>
    hranges x (List.mem_append_right _ (List.mem_flatMap.2 ⟨k, List.mem_range.2 hk, hx⟩))
  simp only [ringDefOf] at hd
  split at hd
  · next hdefined =>
    cases hd
    have hone : byteAt os (ringOffset k) = 1 := by simpa [ringDefined] using hdefined
    have hplaces := List.find?_eq_none.1 hinside k (List.mem_filter.2 ⟨List.mem_range.2 hk, hdefined⟩)
    simp only [ringRange, hone, if_true, List.forall_mem_cons, decide_eq_true_eq] at hrange
    obtain ⟨-, -, -, hlen, hlow, -⟩ := hrange
    rw [decide_eq_true_eq, Nat.not_lt] at hplaces
    exact ⟨hlen.1, hplaces, hlow⟩
  · cases hd

/-- The notice mask of an accepted profile names the fifteen causes only. -/
theorem noticeMask_accepted {os : List Octet} (h : profileError os = none) :
    (profileOf os).noticeMask.getLsbD 15 = false := by
  obtain ⟨hranges, -⟩ := checks_of_accepted h
  have hmask : fieldAt os 22 2 < 2 ^ 15 :=
    of_decide_eq_true (hranges (decide (fieldAt os 22 2 < 2 ^ 15), 22) (by simp [rangeChecks]))
  have hbit : (BitVec.ofNat 16 (fieldAt os 22 2)).getLsbD 15 = false := by
    rw [BitVec.getLsbD_ofNat, Nat.testBit_lt_two_pow hmask]
    rfl
  exact hbit

/-- The rings that START makes of an accepted profile are good (R91). -/
theorem ringsAtStart_good {os : List Octet} (h : profileError os = none)
    (ht : t.journal.rings = ringsAtStart (profileOf os)) : t.ringsGood := by
  intro k r hr
  have hk := lt_of_ringAt hr
  have hget : (profileOf os).rings[k]? = some (ringDefOf os k) := tableOf_get _ hk
  rw [ringAt, ht, ringsAtStart, tableMap_get, hget] at hr
  obtain ⟨d, hd, rfl⟩ := Option.map_eq_some_iff.1 hr
  obtain ⟨hlen, hplace, hlow⟩ := ringDefOf_accepted h hk hd
  refine ⟨hlen, hplace, hlow, by simp only; omega, Nat.zero_le _, ?_⟩
  simp only [Ring.free, Bool.false_eq_true, false_iff]
  omega

/-! ### The owners of the commands (R181) -/

/-- START hands an accepted profile to the blocks (R189). -/
theorem inForm_startStation {os : List Octet} (hloaded : s.port.loaded = some os) (h : s.inForm) :
    (startStation os s).inForm := by
  obtain ⟨hm, ⟨hjudged, -⟩, -, hp, hr, hreported, -⟩ := h
  obtain ⟨hlen, haccepted⟩ := hjudged os hloaded
  let handed : State :=
    { s with
      profile := profileOf os
      port := { s.port with started := true }
      roundCtl := { s.roundCtl with receiver := .waitIdle }
      journal := { s.journal with rings := ringsAtStart (profileOf os) }
      notice := { s.notice with mask := (profileOf os).noticeMask } }
  have hhanded : handed.inForm :=
    ⟨hm, ⟨hjudged, fun _ => ⟨os, hloaded, rfl⟩⟩, ringsAtStart_good haccepted rfl,
      ⟨hp, hr, hreported, noticeMask_accepted haccepted⟩⟩
  have hchannels : ((List.range 8).foldl startChannel handed).inForm := hhanded.congr
  have hhold : (startHold ((List.range 8).foldl startChannel handed)).inForm := hchannels.congr
  exact inForm_enterSync _ (inForm_timeUpdate _ hhold)

/-- LOAD_PROFILE keeps 216 octets that pass the checks, before START only (R187). -/
theorem inForm_takeLoadProfile {os : List Octet} (hlen : os.length = 216) (htimer : s.timerInListen) (h : s.inForm) :
    (takeLoadProfile os s).1.inForm := by
  unfold takeLoadProfile
  split
  · next hoff =>
    split
    · exact h
    · next haccepted =>
      obtain ⟨hm, -, hr, hn⟩ := h
      refine ⟨hm, ⟨fun os' hos => ?_, fun hstarted => absurd hoff (htimer.2.1 hstarted)⟩, hr, hn⟩
      cases hos
      exact ⟨hlen, haccepted⟩
  all_goals exact h

theorem ringAt_of_judgeRing {k : Nat} {r : Ring} (h : judgeRing k s = .inl r) : ringAt s k = some r := by
  unfold judgeRing at h
  split at h
  · cases h
  · split at h
    · cases h
    · split at h
      · cases h
      · next hr => cases h; exact hr

theorem inForm_takeReleaseRing (k n : Nat) (h : s.inForm) : (takeReleaseRing k n s).1.inForm := by
  unfold takeReleaseRing
  split
  · exact h
  · next r hjudge =>
    split
    · exact h
    · obtain ⟨hm, hp, hg, hn⟩ := h
      have hr := ringAt_of_judgeRing hjudge
      exact ⟨hm, hp, ringsGood_withRing (lt_of_ringAt hr) (hg k r hr).released rfl rfl hg, hn⟩

theorem ringAt_clearLossFlags (s : State) (k : Nat) :
    ringAt (clearLossFlags s) k = (ringAt s k).map fun r => { r with lossReported := false } := by
  simp only [ringAt, clearLossFlags, tableMap_get]
  cases s.journal.rings[k]? <;> rfl

/-- ACK_NOTICES removes causes, and clears the loss-reported flags at most (R84, R195). -/
theorem inForm_takeAckNotices (causes : Word16) (h : s.inForm) : (takeAckNotices causes s).1.inForm := by
  have hcleared {u : State} (hu : u.inForm) : (clearLossFlags u).inForm := by
    obtain ⟨hm, hp, hg, hn⟩ := hu
    refine ⟨hm, hp, fun k r hr => ?_, hn⟩
    obtain ⟨q, hq, rfl⟩ := Option.map_eq_some_iff.1 ((ringAt_clearLossFlags u k).symm.trans hr)
    exact hg k q hq
  obtain ⟨hm, hp, hg, hpending, hn⟩ := h
  unfold takeAckNotices
  split
  · exact ⟨hm, hp, hg, hpending, hn⟩
  · have hacked (cleared : Word16) :
        ({ s with notice := { s.notice with pending := s.notice.pending &&& ~~~cleared } } : State).inForm :=
      ⟨hm, hp, hg, by simp only [BitVec.getLsbD_and, hpending, Bool.false_and], hn⟩
    exact inForm_ite (hcleared (hacked _)) (hacked _)

theorem inForm_takeSetNoticeMask (causes : Word16) (h : s.inForm) : (takeSetNoticeMask causes s).1.inForm := by
  unfold takeSetNoticeMask
  split
  · exact h
  · next hbit =>
    obtain ⟨hm, hp, hg, hpending, hraised, hreported, -⟩ := h
    exact ⟨hm, hp, hg, hpending, hraised, hreported, Bool.eq_false_iff.2 hbit⟩

theorem inForm_takeStart (h : s.inForm) : (takeStart s).1.inForm := by
  unfold takeStart
  split
  · next hloaded =>
    dsimp only
    exact inForm_startStation hloaded h
  all_goals exact h

theorem inForm_offerRequest {i : Item} (ht : offerRequest i s = some t) (h : s.inForm) : t.inForm := by
  obtain ⟨-, rfl⟩ := offerRequest_eq_some.1 ht
  exact h.congr

theorem inForm_takeArmRemote (target c : Nat) (f : ArmFields) (h : s.inForm) : (takeArmRemote target c f s).1.inForm := by
  unfold takeArmRemote
  split
  · exact h
  · split
    · exact h
    · split
      · exact h
      · simp only
        split
        · exact h
        · next hoffer => exact (inForm_offerRequest hoffer h).congr rfl rfl

theorem inForm_takeCancelRemote (tag : Octet) (h : s.inForm) : (takeCancelRemote tag s).1.inForm := by
  have hoffer (place : Nat) (r : OutRecord) : (offerCancel place r s).1.inForm := by
    unfold offerCancel
    split
    · exact h
    · next hoffered => exact inForm_setRecord _ _ (inForm_offerRequest hoffered h)
  have hwithdraw {t : State} {target : Nat} {g : Octet} (ht : withdrawArm target g s = some t) : t.inForm := by
    simp only [withdrawArm] at ht
    split at ht
    · cases ht; exact h.congr
    · cases ht
  have hcancel (place : Nat) (r : OutRecord) : (cancelRecord place r s).1.inForm := by
    unfold cancelRecord
    split
    · exact h
    · split
      · split
        · next hwithdrawn => exact inForm_completeRecord _ _ _ (hwithdraw hwithdrawn)
        · exact hoffer _ _
      · exact hoffer _ _
      · exact hoffer _ _
  unfold takeCancelRemote
  repeat' split
  all_goals simp [h, hcancel]

/-- The owner of a command keeps the form; LOAD_PROFILE needs that a started station is not in OFF (R181, R187). -/
theorem inForm_takeCommand (cmd : Cmd) (ops : List Octet) (hlen : ops.length = cmd.operandCount) (htimer : s.timerInListen)
    (h : s.inForm) : (takeCommand cmd ops s).1.inForm := by
  cases cmd
  case loadProfile => exact inForm_takeLoadProfile hlen htimer h
  case start => exact inForm_takeStart h
  case armRemote => exact inForm_takeArmRemote _ _ _ h
  case cancelRemote => exact inForm_takeCancelRemote _ h
  case releaseRing => exact inForm_takeReleaseRing _ _ h
  case ackNotices => exact inForm_takeAckNotices _ h
  case setNoticeMask => exact inForm_takeSetNoticeMask _ h
  case readNotices =>
    obtain ⟨hm, hp, hg, hpending, -, -, hmask⟩ := h
    have hempty : (0 : Word16).getLsbD 15 = false := rfl
    exact ⟨hm, hp, hg, hpending, hempty, hpending, hmask⟩
  case cancel =>
    simp only [takeCommand, takeCancel]
    repeat' split
    all_goals simp [h]
  case proposeSwap =>
    simp only [takeCommand, takeProposeSwap]
    repeat' split
    all_goals simp [h]
  case hold =>
    simp only [takeCommand, takeHold]
    split <;> simp [h]
  case release =>
    simp only [takeCommand, takeRelease]
    repeat' split
    all_goals simp [h]
  all_goals
    simp only [takeCommand, takeStatus, takeReadTime, takeReadPeer, takeReadChannel, takeReadProfile, takeArm,
      takeReadEntry, takeReadOutbound, takeStageEntry, takeClearStaged, takeMarkReady, takeReadBank, takeRingStatus,
      takeReadRing, takeSoftReset]
    repeat' split
  all_goals exact h.congr rfl rfl rfl rfl rfl

/-! ### The port (R181 to R184, R197, R198) -/

/-- The station is in form, and the listen timer stands in LISTEN only (R17). -/
def State.ready (s : State) : Prop := s.inForm ∧ s.timerInListen

theorem State.ready.congr (h : s.ready) (hjournal : t.journal = s.journal := by rfl)
    (hnotice : t.notice = s.notice := by rfl) (hprofile : t.profile = s.profile := by rfl)
    (htimebase : t.timebase = s.timebase := by rfl) (hloaded : t.port.loaded = s.port.loaded := by rfl)
    (hstarted : t.port.started = s.port.started := by rfl) : t.ready := by
  obtain ⟨hform, htimer⟩ := h
  refine ⟨hform.congr hjournal hnotice hprofile hloaded hstarted, ?_⟩
  rwa [State.timerInListen, htimebase, hstarted]

theorem ready_takeReset (s : State) : (takeReset s).ready :=
  State.ready.congr (s := State.reset)
    ⟨inForm_reset, by simp [State.timerInListen, State.reset, Timebase.reset, Port.reset]⟩

theorem ready_takeSelFall (h : s.ready) : (takeSelFall s).ready := by
  simp only [takeSelFall]
  repeat' split
  all_goals exact h.congr

theorem ready_takeSelRise (h : s.ready) : (takeSelRise s).ready := by
  simp only [takeSelRise]
  repeat' split
  · exact h.congr
  · exact ready_takeReset _
  · exact h.congr
  · exact h

/-- A new transaction begins from the state as it was, or from the reset that was due (R183, R198). -/
theorem ready_freshTransaction (h : s.ready) : (freshTransaction s).ready := ready_takeSelFall (ready_takeSelRise h)

theorem inForm_takeOperands (cmd : Cmd) (ops : List Octet) (h : s.ready) : (takeOperands cmd ops s).inForm := by
  obtain ⟨hform, htimer⟩ := h
  unfold takeOperands
  split
  · next hall =>
    have htaken := inForm_takeCommand cmd (ops.take cmd.operandCount) (List.length_take_of_le hall) htimer hform
    exact htaken.congr rfl rfl rfl rfl rfl
  · exact hform.congr rfl rfl rfl rfl rfl

theorem inForm_takeCommandOctet (o : Octet) (h : s.ready) : (takeCommandOctet o s).inForm := by
  unfold takeCommandOctet
  split
  · exact inForm_takeOperands _ _ h
  · exact h.1.congr rfl rfl rfl rfl rfl

theorem nextAnswer_loaded (readyAt : Nat) (ready : Bool) (left : List Octet) (p : Port) :
    (p.nextAnswer readyAt ready left).loaded = p.loaded ∧ (p.nextAnswer readyAt ready left).started = p.started := by
  unfold Port.nextAnswer
  repeat' split
  all_goals exact ⟨rfl, rfl⟩

theorem inForm_takePortOctet (o : Octet) (h : s.ready) : (takePortOctet o s).inForm := by
  unfold takePortOctet
  split
  · exact h.1
  · exact h.1
  · exact inForm_takeCommandOctet _ h
  · exact inForm_takeOperands _ _ h
  · next readyAt ready left _ =>
    obtain ⟨hloaded, hstarted⟩ := nextAnswer_loaded readyAt ready left s.port
    exact h.1.congr rfl rfl rfl hloaded hstarted
  · exact h.1.congr rfl rfl rfl rfl rfl

/-- The row of a command, whatever transaction it finds (R181; assumption 5). -/
theorem inForm_portCommand (cmd : Cmd) (ops : List Octet) (h : s.ready) : (portCommand cmd ops s).inForm := by
  have hfresh := ready_freshTransaction h
  have hopen : (openFor cmd ops s).ready := by
    unfold openFor
    repeat' split
    all_goals assumption
  exact inForm_ite h.1 (inForm_takeOperands _ _ hopen)

theorem inForm_portUnknown (o : Octet) (h : s.ready) : (portUnknown o s).inForm := by
  have hfresh := inForm_takeCommandOctet o (ready_freshTransaction h)
  unfold portUnknown
  split
  · exact h.1
  · split
    · exact inForm_takeCommandOctet _ h
    all_goals exact hfresh

end Sys2Proof.Machine
end

section
/-! SETTLED. The journal memory, the rings, the profile and the notice sets stay in form (O57). -/

namespace Sys2Proof.Machine

/-- Every command keeps the form of the journal, the profile and the notices. -/
theorem inForm_exec {s t : State} (c : Instr) (hexec : exec c s = .next t) (h : s.ready) : t.inForm := by
  have hform : s.inForm := h.1
  cases c <;> obtain rfl := Host.Outcome.next.inj hexec
  case reset => exact (ready_takeReset _).1
  case adjustedStep => exact inForm_takeAdjusted _ _ hform
  case listenTimerExpiry => exact inForm_takeListenExpiry hform
  case roundEnd => exact inForm_takeRoundEnd _ hform
  case ownSendInstant => exact hform.congr
  case collision => exact inForm_takeCollision hform
  case frameSentWhole => exact hform.congr
  case frameComplete => exact inForm_takeFrameComplete _ _ hform
  case frameFailed => exact inForm_takeFrameFailed hform
  case edgeAccepted => exact inForm_takeEdge _ _ hform
  case holdLineAccepted => exact inForm_takeHoldLine hform
  case fire => exact inForm_takeFire hform
  case pulseEnd => exact inForm_takePulseEnd _ hform
  case expiry => exact inForm_takeExpiry _ hform
  case cyclicFire => exact hform.congr
  case cyclicPulseEnd => exact hform.congr
  case transactionStart => exact (ready_takeSelFall h).1
  case transactionEnd => exact (ready_takeSelRise h).1
  case answerReady => exact hform.congr
  case unknownCommand => exact inForm_portUnknown _ h
  case referencePeriod => exact inForm_takePeriod _ _ hform
  case receptionStart => exact hform.congr
  case lineIdle => exact inForm_takeLineIdle hform
  case resetAsserted => exact inForm_reset.congr rfl rfl rfl rfl rfl
  case portOctet => exact inForm_takePortOctet _ h
  all_goals exact inForm_portCommand _ _ h

/-- Settles O57: each command keeps the form, by the rules of the operations that it is made of. -/
theorem journalAndProfileKept : Obligations.JournalAndProfileKept := by
  intro s t hstep hmemory hprofile hrings hnotices htimer
  have h : s.ready := ⟨⟨hmemory, hprofile, hrings, hnotices⟩, htimer⟩
  unfold step at hstep
  split at hstep
  · cases hstep; exact h.1
  · exact inForm_exec _ hstep h.congr

end Sys2Proof.Machine
end

section
/-! SUPPORT. What stands at a place among joined octets, and the encodings of numbers, flags and values that may be absent
(R186, R199). -/

namespace Sys2Proof.Machine

variable {a b os : List Octet} {o : Octet} {i k n : Nat}

/-! ### Places among joined octets -/

@[simp] theorem octetAt_cons_zero : octetAt (o :: os) 0 = o := rfl

@[simp] theorem octetAt_cons_succ : octetAt (o :: os) (i + 1) = octetAt os i := rfl

/-- The octets after the first ones. -/
@[simp] theorem octetAt_append_right (h : a.length ≤ i) : octetAt (a ++ b) i = octetAt b (i - a.length) :=
  List.getD_append_right a b 0 i h

theorem octetAt_append_left (h : i < a.length) : octetAt (a ++ b) i = octetAt a i := List.getD_append a b 0 i h

@[simp] theorem fieldAt_cons_succ : fieldAt (o :: os) (i + 1) k = fieldAt os i k := rfl

@[simp] theorem fieldAt_append_right (h : a.length ≤ i) : fieldAt (a ++ b) i k = fieldAt b (i - a.length) k := by
  rw [fieldAt, List.drop_append, List.drop_eq_nil_of_le h, List.nil_append, fieldAt]

@[simp] theorem optionalAt_cons_succ {v : Option Nat} : optionalAt (o :: os) (i + 1) k v ↔ optionalAt os i k v := by
  cases v <;> rfl

@[simp] theorem optionalAt_append_right {v : Option Nat} (h : a.length ≤ i) :
    optionalAt (a ++ b) i k v ↔ optionalAt b (i - a.length) k v := by
  have hnext : i + 1 - a.length = i - a.length + 1 := by omega
  cases v <;> simp only [optionalAt, octetAt_append_right h, fieldAt_append_right (Nat.le_succ_of_le h), hnext]

/-- Places counted from the end of the first octets. -/
theorem octetAt_after (h : a.length = n) (i : Nat) : octetAt (a ++ b) (n + i) = octetAt b i := by
  rw [octetAt_append_right (by omega), h, Nat.add_sub_cancel_left]

theorem fieldAt_after (h : a.length = n) (i k : Nat) : fieldAt (a ++ b) (n + i) k = fieldAt b i k := by
  rw [fieldAt_append_right (by omega), h, Nat.add_sub_cancel_left]

theorem optionalAt_after (h : a.length = n) (i k : Nat) (v : Option Nat) :
    optionalAt (a ++ b) (n + i) k v ↔ optionalAt b i k v := by
  rw [optionalAt_append_right (by omega), h, Nat.add_sub_cancel_left]

/-- Where octets of equal numbers are joined, those of one element stand at the multiple of their number. -/
theorem flatMap_split {α : Type} {f : α → List Octet} {l : List α} {x : α} (hf : ∀ y, (f y).length = n)
    (hx : l[i]? = some x) : ∃ before after, l.flatMap f = before ++ (f x ++ after) ∧ before.length = n * i := by
  obtain ⟨hi, rfl⟩ := List.getElem?_eq_some_iff.1 hx
  refine ⟨(l.take i).flatMap f, (l.drop (i + 1)).flatMap f, ?_, ?_⟩
  · rw [← List.flatMap_cons, ← List.flatMap_append, List.getElem_cons_drop, List.take_append_drop]
  · simp [List.length_flatMap, hf, Nat.min_eq_left hi.le, Nat.mul_comm]

/-! ### Numbers (R199) -/

@[simp] theorem optional_length (v : Option Nat) : (optional k v).length = k + 1 := by
  cases v <;> simp [optional, zeros]

theorem leValue_le (k n : Nat) : leValue (le k n) = n % 256 ^ k := by
  induction k generalizing n with
  | zero => simp [le, leValue, Nat.mod_one]
  | succ k ih =>
    have hpow : 256 ^ (k + 1) = 256 * 256 ^ k := Nat.pow_succ'
    simp only [le, leValue, ih, octetOf, BitVec.toNat_ofNat, hpow, Nat.mod_mul]

theorem leValue_zeros (k : Nat) : leValue (zeros k) = 0 := by
  induction k with
  | zero => rfl
  | succ k ih => simpa [zeros, List.replicate_succ, leValue] using ih

/-- A number is read back from its octets. -/
@[simp] theorem fieldAt_le : fieldAt (le k n ++ os) 0 k = n % 256 ^ k := by
  rw [fieldAt, List.drop_zero, List.take_left' (le_length k n), leValue_le]

@[simp] theorem fieldAt_le_end : fieldAt (le k n) 0 k = n % 256 ^ k := by
  simpa using fieldAt_le (os := [])

@[simp] theorem fieldAt_zeros_end : fieldAt (zeros k) 0 k = 0 := by
  have hlen : (zeros k).length = k := List.length_replicate
  rw [fieldAt, List.drop_zero, List.take_of_length_le hlen.le, leValue_zeros]

@[simp] theorem fieldAt_zeros : fieldAt (zeros k ++ os) 0 k = 0 := by
  have hlen : (zeros k).length = k := List.length_replicate
  rw [fieldAt, List.drop_zero, List.take_left' hlen, leValue_zeros]

/-- The octets of a number carry it as far as a word of their width does. -/
@[simp] theorem ofNat_mod_two_pow {w m : Nat} (h : m = 2 ^ w) : BitVec.ofNat w (n % m) = BitVec.ofNat w n := by
  rw [h]
  exact BitVec.eq_of_toNat_eq (by simp)

/-- A value that may be absent is read back (R186). -/
@[simp] theorem optionalAt_optional {w : Nat} {v : Option (BitVec w)} (hw : 2 ^ w = 256 ^ k) :
    optionalAt (optional k (optNat v) ++ os) 0 k (v.map BitVec.toNat) := by
  cases v with
  | none => exact ⟨rfl, fieldAt_zeros⟩
  | some x => exact ⟨rfl, fieldAt_le.trans (Nat.mod_eq_of_lt (hw ▸ x.isLt))⟩

/-! ### Flags (R199) -/

/-- The number whose bits are given, bit 0 first. -/
theorem testBit_foldr_bits (bits : List Bool) (j : Nat) :
    (bits.foldr (fun (b : Bool) n => b.toNat + 2 * n) 0).testBit j = bits.getD j false := by
  induction bits generalizing j with
  | nil => simp
  | cons b bits ih =>
    rw [List.foldr_cons, Nat.add_comm, ← Nat.bit_val]
    cases j with
    | zero => rw [Nat.testBit_bit_zero, List.getD_cons_zero]
    | succ j => rw [Nat.testBit_bit_succ, ih, List.getD_cons_succ]

/-- An octet of flags shows each flag at its bit. -/
theorem getLsbD_bitsOctet (bits : List Bool) {j : Nat} (hj : j < 8) :
    (bitsOctet bits).getLsbD j = bits.getD j false := by
  rw [bitsOctet, octetOf, BitVec.getLsbD_ofNat, testBit_foldr_bits, decide_eq_true hj, Bool.true_and]

end Sys2Proof.Machine
end

section
/-! SUPPORT. The fields of READ_ENTRY, of READ_OUTBOUND and of the ring records (R77, R78, R119, R179). -/

namespace Sys2Proof.Machine

/-! ### READ_ENTRY (R119) -/

/-- The next fire time, in SCHEDULED. -/
def Entry.nextFire (e : Entry) : Option NT :=
  match e.state with
  | .scheduled next => some next
  | .waiting _ => none
  | .active _ _ _ => none

/-- The pulse end time, in ACTIVE. -/
def Entry.pulseEnd (e : Entry) : Option NT :=
  match e.state with
  | .active ends _ _ => some ends
  | .waiting _ => none
  | .scheduled _ => none

/-- The cancel pending flag, clear outside ACTIVE. -/
def Entry.cancelPending (e : Entry) : Bool :=
  match e.state with
  | .active _ _ cancelPending => cancelPending
  | .waiting _ => false
  | .scheduled _ => false

/-- The octets of READ_ENTRY after the effect. -/
def entryTail (e : Entry) : List Octet :=
  octetOf e.remaining :: (le 2 e.fireCount ++ (optional 6 (optNat e.lastFire) ++ (optional 6 (optNat e.expiry) ++
    (le 4 e.armSeq.toNat ++ (optional 6 (optNat e.nextFire) ++ (optional 6 (optNat e.pulseEnd) ++
      (optional 2 (optNat e.lastUsed) ++ [flagOctet e.cancelPending])))))))

/-- The fields of READ_ENTRY in their order: the trigger, the effect and what follows it. -/
theorem entryData_eq (e : Entry) : entryData e =
    octetOf (entryStateCode e.state) :: octetOf e.owner :: e.tag :: octetOf e.channel ::
      (triggerData e.trigger ++ (effectData e.effect ++ entryTail e)) := by
  cases hstate : e.state <;>
    simp [entryData, entryTail, Entry.nextFire, Entry.pulseEnd, Entry.cancelPending, hstate, optNat]

theorem entryTail_spelled (e : Entry) : let d := entryTail e
    d.length = 39 ∧ octetAt d 0 = octetOf e.remaining ∧ word16At d 1 = BitVec.ofNat 16 e.fireCount ∧
      optionalAt d 3 6 (e.lastFire.map BitVec.toNat) ∧ optionalAt d 10 6 (e.expiry.map BitVec.toNat) ∧
      word32At d 17 = e.armSeq ∧ optionalAt d 21 6 (e.nextFire.map BitVec.toNat) ∧
      optionalAt d 28 6 (e.pulseEnd.map BitVec.toNat) ∧ optionalAt d 35 2 (e.lastUsed.map BitVec.toNat) ∧
      octetAt d 38 = flagOctet e.cancelPending := by
  simp [entryTail, word16At, word32At]

theorem triggerData_atTime (t : NT) (i : Option Word32) : let d := triggerData (.atTime t i) ++ os
    octetAt d 0 = 0 ∧ ntAt d 1 = t ∧ optionalAt d 7 4 (i.map BitVec.toNat) := by
  simp [triggerData, ntAt]

theorem triggerData_onMark (st ch : Nat) (sel : EdgeSel) (delay : Word32) (q : Option Word16) :
    let d := triggerData (.onMark st ch sel delay q) ++ os
    octetAt d 0 = 1 ∧ octetAt d 1 = octetOf st ∧ octetAt d 2 = octetOf ch ∧ octetAt d 3 = octetOf (edgeSelCode sel) ∧
      word32At d 4 = delay ∧ optionalAt d 8 2 (q.map BitVec.toNat) := by
  simp [triggerData, word32At]

/-- The octets of READ_ENTRY before the effect, by the trigger. -/
theorem entryData_effect (e : Entry) : ∃ before, entryData e = before ++ (effectData e.effect ++ entryTail e) ∧
    before.length = match e.trigger with
      | .atTime _ _ => 16
      | .onMark _ _ _ _ _ => 15 := by
  refine ⟨octetOf (entryStateCode e.state) :: octetOf e.owner :: e.tag :: octetOf e.channel :: triggerData e.trigger,
    ?_, ?_⟩
  · rw [entryData_eq]; rfl
  · cases e.trigger <;> simp [triggerData]

/-! ### READ_OUTBOUND (R179) -/

@[simp] theorem outRecordData_length (r : Option OutRecord) : (outRecordData r).length = 9 := by
  cases r <;> simp [outRecordData, zeros]

theorem outRecordData_none {o : Nat} (ho : o < 9) : octetAt (outRecordData none ++ os) o = 0 := by
  rw [octetAt_append_left (by simpa using ho)]
  interval_cases o <;> rfl

theorem outRecordData_some (r : OutRecord) : let d := outRecordData (some r) ++ os
    octetAt d 0 = 1 ∧ octetAt d 1 = r.tag ∧ octetAt d 2 = octetOf r.target ∧ octetAt d 3 = octetOf r.channel ∧
      octetAt d 4 = octetOf (outStateCode r.state) ∧ octetAt d 5 = flagOctet r.cancelRequested ∧
      optionalAt d 6 2 (r.roundSent.map BitVec.toNat) := by
  simp [outRecordData]

/-- The octets of READ_OUTBOUND. -/
def outboundData (s : State) : List Octet :=
  s.request.tagCounter :: (le 2 s.request.unsolicited.toNat ++
    (octetOf ((List.range 16).filter fun i => (recordOf s i).isSome).length ::
      s.request.table.toList.flatMap outRecordData))

theorem takeReadOutbound_eq (s : State) : takeReadOutbound s = (s, Answer.done (outboundData s)) := by
  have hplaces : recordsWhere (fun _ => true) s = (List.range 16).filter fun i => (recordOf s i).isSome := by
    refine List.filter_congr fun i _ => ?_
    cases h : s.request.table[i]? with
    | none => simp [recordOf, h]
    | some r => cases r <;> simp [recordOf, h]
  rw [takeReadOutbound, hplaces]
  simp [outboundData]

theorem outboundData_length (s : State) : (outboundData s).length = 148 := by
  simp [outboundData, List.length_flatMap]

/-- The octets of a place of the outbound table in those of READ_OUTBOUND. -/
theorem outboundData_place (s : State) {i : Nat} (hi : i < 16) : ∃ before after,
    outboundData s = before ++ (outRecordData (recordOf s i) ++ after) ∧ before.length = 4 + 9 * i := by
  have hplace : s.request.table.toList[i]? = some (recordOf s i) := by simp [recordOf, hi]
  obtain ⟨before, after, hblocks, hlen⟩ := flatMap_split outRecordData_length hplace
  refine ⟨s.request.tagCounter :: (le 2 s.request.unsolicited.toNat ++
    (octetOf ((List.range 16).filter fun i => (recordOf s i).isSome).length :: before)), after, ?_, ?_⟩
  · simp [outboundData, hblocks]
  · simp only [List.length_cons, List.length_append, le_length, hlen]
    omega

/-! ### Ring records (R77, R78) -/

/-- Octet 0 of a MARK record (10.7.4). -/
theorem markFlags_spelled (fromPeer : Bool) (m : Mark) :
    let o := bitsOctet [false, fromPeer, m.unsynced, decide (m.edge = .falling)]
    o.getLsbD 0 = false ∧ o.getLsbD 1 = fromPeer ∧ o.getLsbD 2 = m.unsynced ∧
      o.getLsbD 3 = decide (m.edge = .falling) ∧ o.toNat < 16 := by
  refine ⟨getLsbD_bitsOctet _ (by decide), getLsbD_bitsOctet _ (by decide), getLsbD_bitsOctet _ (by decide),
    getLsbD_bitsOctet _ (by decide), ?_⟩
  have hbit (b : Bool) : b.toNat ≤ 1 := Bool.toNat_le b
  have h1 := hbit fromPeer
  have h2 := hbit m.unsynced
  have h3 := hbit (decide (m.edge = .falling))
  simp only [bitsOctet, octetOf, BitVec.toNat_ofNat, List.foldr_cons, List.foldr_nil, Bool.toNat_false]
  omega

/-- Octet 0 of a REPORT record (10.7.4). -/
def ReportRecord.flags (r : ReportRecord) : Nat :=
  1 + 2 * r.origin.code + 8 * r.lastFire.isSome.toNat + 16 * r.detail.isSome.toNat +
    32 * r.fireCount.isSome.toNat + 64 * r.channel.isSome.toNat + 128 * r.index.isSome.toNat

/-- Bits 1 and 2 of octet 0 of a REPORT record: the origin (10.7.4). -/
def Origin.bits : Origin → Bool × Bool
  | .localAction => (false, false)
  | .outbound => (true, false)
  | .unsolicited => (false, true)

theorem reportFlags_bits (r : ReportRecord) : octetOf r.flags =
    bitsOctet [true, r.origin.bits.1, r.origin.bits.2, r.lastFire.isSome, r.detail.isSome, r.fireCount.isSome,
      r.channel.isSome, r.index.isSome] := by
  have hcode : r.origin.code = r.origin.bits.1.toNat + 2 * r.origin.bits.2.toNat := by cases r.origin <;> rfl
  rw [bitsOctet, ReportRecord.flags, hcode]
  congr 1
  simp only [List.foldr_cons, List.foldr_nil, Bool.toNat_true]
  omega

theorem reportFlags_origin (r : ReportRecord) : (octetOf r.flags).toNat / 2 % 4 = r.origin.code := by
  have hcode : r.origin.code < 4 := by cases r.origin <;> decide
  simp only [octetOf, BitVec.toNat_ofNat, ReportRecord.flags]
  omega

theorem reportFlags_spelled (r : ReportRecord) : let o := octetOf r.flags
    o.getLsbD 0 = true ∧ o.toNat / 2 % 4 = r.origin.code ∧ o.getLsbD 3 = r.lastFire.isSome ∧
      o.getLsbD 4 = r.detail.isSome ∧ o.getLsbD 5 = r.fireCount.isSome ∧ o.getLsbD 6 = r.channel.isSome ∧
      o.getLsbD 7 = r.index.isSome := by
  intro o
  have hbits {j : Nat} (hj : j < 8) : o.getLsbD j = _ := (reportFlags_bits r).symm ▸ getLsbD_bitsOctet _ hj
  exact ⟨hbits (by decide), reportFlags_origin r, hbits (by decide), hbits (by decide), hbits (by decide),
    hbits (by decide), hbits (by decide)⟩

end Sys2Proof.Machine
end

section
/-! SETTLED. The octets of READ_ENTRY, of READ_OUTBOUND and of the ring records (O37). -/

namespace Sys2Proof.Machine

/-- Settles O37: each octet string is taken apart into the fields that it joins, and each field is read at its place. -/
theorem entriesAndRecordsSpelled : Obligations.EntriesAndRecordsSpelled := by
  refine ⟨?entry, ?outbound, ?mark, ?report⟩
  case entry =>
    intro e d
    have hd : d = _ := entryData_eq e
    refine ⟨?state, ?owner, ?tag, ?channel, ?atTime, ?onMark, ?effect⟩
    case state => rw [hd]; cases e.state <;> rfl
    case owner => rw [hd]; rfl
    case tag => rw [hd]; rfl
    case channel => rw [hd]; rfl
    case atTime =>
      intro t i htrigger
      rw [hd, htrigger]
      exact triggerData_atTime t i
    case onMark =>
      intro st ch sel delay q htrigger
      rw [hd, htrigger]
      exact triggerData_onMark st ch sel delay q
    case effect =>
      intro k
      obtain ⟨before, hbefore, hk⟩ := entryData_effect e
      have hd : d = before ++ (effectData e.effect ++ entryTail e) := hbefore
      have hk : before.length = k := hk
      rw [hd]
      refine ⟨fun l heffect => ?_, fun heffect => ?_, fun l w heffect => ?_, ?tail⟩
      · rw [heffect]
        exact ⟨octetAt_after hk 0, octetAt_after hk 1⟩
      · rw [heffect]
        exact octetAt_after hk 0
      · rw [heffect]
        refine ⟨octetAt_after hk 0, octetAt_after hk 1, ?_⟩
        rw [word32At, fieldAt_after hk 2]
        simp [effectData]
      case tail =>
        intro m
        have hm : (before ++ effectData e.effect).length = m := by
          rw [List.length_append, hk]
          cases heffect : e.effect <;> simp [m, heffect, effectData]
        obtain ⟨hlen, hremaining, hcount, hlast, hexpiry, hseq, hnext, hends, hused, hpending⟩ := entryTail_spelled e
        rw [← List.append_assoc]
        refine ⟨by rw [List.length_append, hm, hlen], (octetAt_after hm 0).trans hremaining,
          (congrArg (BitVec.ofNat 16) (fieldAt_after hm 1 2)).trans hcount, (optionalAt_after hm 3 6 _).2 hlast,
          (optionalAt_after hm 10 6 _).2 hexpiry, (congrArg (BitVec.ofNat 32) (fieldAt_after hm 17 4)).trans hseq, ?_, ?_,
          (optionalAt_after hm 35 2 _).2 hused, ?_⟩
        · convert (optionalAt_after hm 21 6 _).2 hnext using 1
          unfold Entry.nextFire
          cases e.state <;> rfl
        · convert (optionalAt_after hm 28 6 _).2 hends using 1
          unfold Entry.pulseEnd
          cases e.state <;> rfl
        · exact (octetAt_after hm 38).trans hpending
  case outbound =>
    intro s ho
    refine ⟨outboundData s, congrArg Host.Outcome.next
      (portCommand_answers .readOutbound [] ho rfl rfl (takeReadOutbound_eq s)), outboundData_length s, rfl, ?_, ?_, ?_⟩
    · simp [outboundData, word16At]
    · simp [outboundData]
    · intro i hi k
      obtain ⟨before, after, hd, hk⟩ := outboundData_place s hi
      have hk : before.length = k := hk
      rw [hd]
      refine ⟨fun hnone o ho => ?_, fun r hr => ?_⟩
      · rw [octetAt_after hk, hnone]
        exact outRecordData_none ho
      · obtain ⟨hpresent, htag, htarget, hchannel, hstate, hcancel, hround⟩ := outRecordData_some (os := after) r
        rw [hr]
        exact ⟨(octetAt_after hk 0).trans hpresent, (octetAt_after hk 1).trans htag, (octetAt_after hk 2).trans htarget,
          (octetAt_after hk 3).trans hchannel, (octetAt_after hk 4).trans hstate, (octetAt_after hk 5).trans hcancel,
          (optionalAt_after hk 6 2 _).2 hround⟩
  case mark =>
    intro m fromPeer lost d
    refine ⟨markRecord_length m fromPeer lost, markFlags_spelled fromPeer m, ?_⟩
    simp [d, markRecord, word16At, word32At, ntAt]
  case report =>
    intro r lost d
    obtain ⟨hkind, horigin, hrest⟩ := reportFlags_spelled r
    refine ⟨reportRecord_length r lost, ⟨hkind, horigin.trans ?_, hrest⟩, ?_⟩
    · cases r.origin <;> rfl
    · simp [d, reportRecord, word16At, word32At]

end Sys2Proof.Machine
end

section
/-! SUPPORT. What the commands of the rings and of the notices answer (R84, R88, R89, R193 to R196). -/

namespace Sys2Proof.Machine

variable {s : State} {k n : Nat} {r : Ring}

/-! ### Operands of two octets -/

/-- A command row reads the word that its operand octets spell (R186). -/
theorem operand_word (w : Word16) : word16At (le 2 w.toNat) 0 = w := by simp [word16At]

theorem operand_number (o : Octet) (w : Word16) : fieldAt (o :: le 2 w.toNat) 1 2 = w.toNat :=
  fieldAt_le_end.trans (Nat.mod_eq_of_lt w.isLt)

/-! ### READ_RING and RELEASE_RING (R88, R89) -/

theorem takeReadRing_invalid (hserved : judgeRing n s = .inl r) (hk : k = 0 ∨ 8 < k) :
    takeReadRing n k s = (s, Answer.only Code.invalid) := by
  rw [takeReadRing, hserved]
  exact if_pos hk

theorem takeReadRing_done (hserved : judgeRing n s = .inl r) (hpos : 1 ≤ k) (hk : k ≤ 8) : takeReadRing n k s =
    (s, Answer.done (le 2 r.count ++ le 2 r.readIdx ++ [octetOf (min k r.count)] ++
      oldestRecords s.journal.mem r (min k r.count))) := by
  rw [takeReadRing, hserved]
  exact if_neg (by omega)

@[simp] theorem recordAt_length (mem : List Host.Cell) (place : Nat) : (recordAt mem place).length = 16 := by
  simp [recordAt, Memory.readAll]

theorem octetAt_recordAt (mem : List Host.Cell) (place : Nat) {o : Nat} (ho : o < 16) :
    octetAt (recordAt mem place) o = Memory.read mem (16 * place + o) := by
  simp [octetAt, recordAt, Memory.readAll, ho]

theorem oldestRecords_length (mem : List Host.Cell) (r : Ring) (j : Nat) : (oldestRecords mem r j).length = 16 * j := by
  simp [oldestRecords, List.length_flatMap, Nat.mul_comm]

/-- The oldest records stand one after another, each as the journal memory has it at its place (R76, R88). -/
theorem octetAt_oldestRecords (mem : List Host.Cell) (r : Ring) {i j o : Nat} (hi : i < j) (ho : o < 16) :
    octetAt (oldestRecords mem r j) (16 * i + o) =
      Memory.read mem (16 * r.place ((r.readIdx + i) % r.defn.length) + o) := by
  obtain ⟨before, after, hsplit, hlen⟩ := flatMap_split (n := 16) (l := List.range j) (i := i) (x := i)
    (f := fun i => recordAt mem (r.place ((r.readIdx + i) % r.defn.length))) (fun _ => recordAt_length _ _)
    (by simp [hi])
  rw [oldestRecords, hsplit, octetAt_after hlen, octetAt_append_left (by simpa using ho), octetAt_recordAt _ _ ho]

theorem takeReleaseRing_invalid (hserved : judgeRing k s = .inl r) (hn : r.count < n) :
    takeReleaseRing k n s = (s, Answer.only Code.invalid) := by
  rw [takeReleaseRing, hserved]
  exact if_pos hn

/-- A command row of a release, with the number of records that its operand octets spell (R186). -/
theorem exec_releaseRing {ring : Octet} {n : Word16} {t : State} {a : Answer} (ho : s.portOpen)
    (htake : takeReleaseRing ring.toNat n.toNat s = (t, a)) :
    exec (.releaseRing ring n) s = .next (t.answering 4 8 a.code a.data) := by
  rw [← operand_number ring n] at htake
  exact congrArg Host.Outcome.next (portCommand_answers .releaseRing (ring :: le 2 n.toNat) ho rfl rfl htake)

theorem takeReleaseRing_done (hserved : judgeRing k s = .inl r) (hn : n ≤ r.count) (hgood : r.good) :
    takeReleaseRing k n s =
      (setRing k (r.freed n) s, Answer.done (le 2 (r.count - n) ++ le 2 ((r.readIdx + n) % r.defn.length))) := by
  rw [takeReleaseRing, hserved, ← Ring.released_eq_freed hgood]
  refine (if_neg (Nat.not_lt.2 hn)).trans ?_
  rw [Ring.released_eq_freed hgood]
  rfl

/-! ### The notices (R193 to R196) -/

theorem takeAckNotices_done {causes : Word16} (h : causes.getLsbD 15 = false) :
    let pending := s.notice.pending &&& ~~~(causes &&& s.notice.reported &&& ~~~s.notice.raised)
    let t : State := { s with notice := { s.notice with pending := pending } }
    takeAckNotices causes s =
      (if (causes &&& s.notice.reported).getLsbD 9 then clearLossFlags t else t, Answer.done (le 2 pending.toNat)) :=
  if_neg (Bool.eq_false_iff.1 h)

/-- A set of causes as the operand of ACK_NOTICES and of SET_NOTICE_MASK (R195, R196). -/
theorem exec_ackNotices {causes : Word16} {t : State} {a : Answer} (ho : s.portOpen)
    (htake : takeAckNotices causes s = (t, a)) : exec (.ackNotices causes) s = .next (t.answering 3 8 a.code a.data) := by
  rw [← operand_word causes] at htake
  exact congrArg Host.Outcome.next (portCommand_answers .ackNotices (le 2 causes.toNat) ho rfl rfl htake)

theorem exec_setNoticeMask {causes : Word16} {t : State} {a : Answer} (ho : s.portOpen)
    (htake : takeSetNoticeMask causes s = (t, a)) :
    exec (.setNoticeMask causes) s = .next (t.answering 3 8 a.code a.data) := by
  rw [← operand_word causes] at htake
  exact congrArg Host.Outcome.next (portCommand_answers .setNoticeMask (le 2 causes.toNat) ho rfl rfl htake)

/-- What two sets of causes have in common. -/
theorem inter_ne_zero_iff (a b : Word16) :
    (a &&& b != 0) = true ↔ ∃ k, k < 16 ∧ a.getLsbD k = true ∧ b.getLsbD k = true := by
  rw [bne_iff_ne, ne_eq, ← not_iff_not, not_not]
  constructor
  · rintro hzero ⟨k, -, ha, hb⟩
    have hk := congrArg (fun w : Word16 => w.getLsbD k) hzero
    simp [ha, hb] at hk
  · intro hnone
    refine BitVec.eq_of_getLsbD_eq fun k hk => ?_
    rw [BitVec.getLsbD_and]
    cases ha : a.getLsbD k
    · simp
    · cases hb : b.getLsbD k
      · simp
      · exact absurd ⟨k, hk, ha, hb⟩ hnone

end Sys2Proof.Machine
end

section
/-! SETTLED. The ring commands (O16), and the notices with their mask (O19). -/

namespace Sys2Proof.Machine

/-- Settles O16: a served ring is read record by record, and a release frees its oldest records. -/
theorem ringsReadAndReleased : Obligations.RingsReadAndReleased := by
  refine ⟨fun s ring k r ho hstarted hring hr => ?read, fun s ring n r ho hstarted hring hr => ?release⟩
  case read =>
    have hserved := judgeRing_served hring hstarted hr
    refine ⟨fun hk => ?_, fun hpos hk => ?_⟩
    · exact congrArg Host.Outcome.next
        (portCommand_answers .readRing [ring, k] ho rfl rfl (takeReadRing_invalid hserved hk))
    · refine ⟨oldestRecords s.journal.mem r (min k.toNat r.count), ?_, oldestRecords_length _ _ _,
        fun i o hi ho => octetAt_oldestRecords _ _ hi ho⟩
      exact congrArg Host.Outcome.next
        (portCommand_answers .readRing [ring, k] ho rfl rfl (takeReadRing_done hserved hpos hk))
  case release =>
    have hserved := judgeRing_served hring hstarted hr
    refine ⟨fun hn => exec_releaseRing ho (takeReleaseRing_invalid hserved hn), fun hn hgood => ?_⟩
    have hrings := ringAt_setRing (s := s) (r := r.freed n.toNat) (k := ring.toNat)
    refine ⟨setRing ring.toNat (r.freed n.toNat) s, exec_releaseRing ho (takeReleaseRing_done hserved hn hgood), rfl,
      fun k hk => (hrings k).trans (if_neg fun h => hk h.1), (hrings _).trans (if_pos ⟨rfl, lt_of_ringAt hr⟩)⟩

/-- Settles O19: the notice sets bit by bit, and the loss-reported flags of the rings. -/
theorem noticesAndMask : Obligations.NoticesAndMask := by
  refine ⟨⟨fun s ho => ?read, fun s causes ho => ⟨fun h => ?ackInvalid, fun h => ?ack⟩⟩,
    fun s causes ho => ⟨fun h => ?maskInvalid, fun h => ?mask⟩, fun s => inter_ne_zero_iff _ _, fun s c => ?raises⟩
  case read => exact congrArg Host.Outcome.next (portCommand_answers .readNotices [] ho rfl rfl rfl)
  case ackInvalid =>
    have htake : takeAckNotices causes s = _ := if_pos h
    exact exec_ackNotices ho htake
  case ack =>
    have hboth : (causes &&& s.notice.reported).getLsbD 9 = true ↔
        causes.getLsbD 9 = true ∧ s.notice.reported.getLsbD 9 = true := by
      rw [BitVec.getLsbD_and, Bool.and_eq_true]
    refine ⟨_, _, exec_ackNotices ho (takeAckNotices_done h), fun k hk => ?_, ?_, fun hnot => ?_,
      fun hcauses hreported => ?_⟩
    · simp only [BitVec.getLsbD_and, BitVec.getLsbD_not, hk, decide_true, Bool.true_and]
    · split <;> rfl
    · rw [if_neg (mt hboth.1 hnot)]
    · rw [if_pos (hboth.2 ⟨hcauses, hreported⟩)]
      exact ⟨rfl, rfl, fun k => ringAt_clearLossFlags _ k⟩
  case maskInvalid =>
    have htake : takeSetNoticeMask causes s = _ := if_pos h
    exact exec_setNoticeMask ho htake
  case mask =>
    have htake : takeSetNoticeMask causes s = _ := if_neg (Bool.eq_false_iff.1 h)
    exact exec_setNoticeMask ho htake
  case raises =>
    have hbit : c.mask.getLsbD c.bit = true := by cases c <;> rfl
    simp only [raise_frame, BitVec.getLsbD_or, hbit, Bool.or_true, and_self]

end Sys2Proof.Machine
end

section
/-! SUPPORT. The banks of the cycle unit: their places, what STAGE_ENTRY and CLEAR_STAGED make of the staged one, and how
MARK_READY judges it (R121 to R126). -/

namespace Sys2Proof.Machine

variable {s : State}

/-! ### The staged bank (R122) -/

/-- The staged bank replaced and the staged state set: what STAGE_ENTRY and CLEAR_STAGED do. -/
def State.editStaged (s : State) (bank : Bank) (staged : Staged) : State :=
  cycleUpdate (fun u => { u.withStaged bank with staged := staged }) s

/-- An edit gives the staged bank and its state; the running bank and the rest of the station stay (R122). -/
theorem editStaged_parts (s : State) (bank : Bank) (staged : Staged) :
    let t := s.editStaged bank staged
    t = { s with cycle := { s.cycle with bankA := t.cycle.bankA, bankB := t.cycle.bankB, staged := staged } } ∧
      t.cycle.staged = staged ∧ t.cycle.runningBank = s.cycle.runningBank ∧ t.cycle.stagedBank = bank := by
  cases hrun : s.cycle.running <;>
    simp [State.editStaged, cycleUpdate, CycleUnit.withStaged, CycleUnit.runningBank, CycleUnit.stagedBank, hrun]

/-- The cleared places are empty, and the others stay (R124). -/
theorem clearPlaces_get (b : Bank) (first count j : Nat) :
    (clearPlaces b first count)[j]? =
      if first ≤ j ∧ j < first + count then b[j]?.map fun _ => none else b[j]? := by
  induction count with
  | zero => rw [if_neg (by omega)]; rfl
  | succ count ih =>
    have hlast : clearPlaces b first (count + 1) =
        tableUpdate (clearPlaces b first count) (first + count) fun _ => none := by
      simp [clearPlaces, List.range_succ]
    rw [hlast, tableUpdate_get, ih]
    by_cases hj : j = first + count
    · rw [if_pos hj, if_neg (by omega), if_pos (by omega)]
    · rw [if_neg hj]
      exact if_congr (by omega) rfl rfl

/-- A bank has no filled place exactly when no place holds an entry. -/
theorem filledPlaces_eq_zero {b : Bank} : filledPlaces b = 0 ↔ ∀ (j : Nat) (c : CyclicEntry), b[j]? ≠ some (some c) := by
  rw [filledPlaces, List.length_eq_zero_iff, List.eq_nil_iff_forall_not_mem]
  simp only [mem_placesWhere, Option.isSome_iff_exists, not_exists, not_and]
  exact ⟨fun h j c hplace => h j _ hplace c rfl, fun h j x hplace c hx => h j c (hx ▸ hplace)⟩

/-! ### Cyclic entries (R123) -/

/-- The octets that R123 does not accept as an entry. -/
theorem cyclicEntryOf_eq_none {os : List Octet} :
    cyclicEntryOf os = none ↔
      8 ≤ (octetAt os 0).toNat ∨ (octetAt os 5).toNat % 4 = 3 ∨
        ((octetAt os 5).toNat % 4 = 2 ∧ (word32At os 6).toNat < 25) ∨ 6 < (octetAt os 10).toNat ∨
        2 ^ (octetAt os 10).toNat ≤ (octetAt os 11).toNat := by
  simp only [cyclicEntryOf, ite_eq_left_iff, reduceCtorEq, imp_false, not_not]

/-- The fields of an accepted entry, each from its octets (10.7.5). -/
theorem cyclicEntryOf_eq_some {os : List Octet} {c : CyclicEntry} (h : cyclicEntryOf os = some c) :
    c.channel = (octetAt os 0).toNat ∧ c.offset = word32At os 1 ∧ c.exp = (octetAt os 10).toNat ∧
      c.phase = (octetAt os 11).toNat ∧
      c.effect =
        (let code := (octetAt os 5).toNat % 4
        let level := levelOfBit ((octetAt os 5).getLsbD 2)
        if code = 0 then .set level else if code = 1 then .toggle else .pulse level (word32At os 6)) := by
  simp only [cyclicEntryOf] at h
  split at h
  · cases h
  · cases h
    exact ⟨rfl, rfl, rfl, rfl, rfl⟩

/-! ### STAGE_ENTRY and CLEAR_STAGED (R123, R124) -/

theorem takeStageEntry_done {index : Nat} {os : List Octet} {c : CyclicEntry} (hstarted : s.port.started = true)
    (hi : index ≤ 31) (hc : cyclicEntryOf os = some c) :
    takeStageEntry index os s =
      (let bank := tableUpdate s.cycle.stagedBank index fun _ => some c
      (s.editStaged bank .editing, Answer.done [octetOf (filledPlaces bank)])) := by
  simp only [takeStageEntry, hstarted, Bool.not_true, Bool.false_eq_true, if_false, if_neg (Nat.not_lt.2 hi), hc]
  rfl

theorem takeStageEntry_invalid {index : Nat} {os : List Octet} (hstarted : s.port.started = true)
    (h : 31 < index ∨ cyclicEntryOf os = none) : takeStageEntry index os s = (s, Answer.only Code.invalid) := by
  rw [takeStageEntry, if_neg (by simp [hstarted])]
  rcases h with h | h
  · rw [if_pos h]
  · simp only [h, ite_self]

theorem takeClearStaged_done {first count : Nat} (hstarted : s.port.started = true) (hfirst : first ≤ 31)
    (hcount : 0 < count) (hlast : first + count ≤ 32) :
    takeClearStaged first count s =
      (let bank := clearPlaces s.cycle.stagedBank first count
      let staged := if filledPlaces bank = 0 then Staged.empty else .editing
      (s.editStaged bank staged, Answer.done [octetOf (stagedCode staged), octetOf (filledPlaces bank)])) := by
  rw [takeClearStaged, if_neg (by simp [hstarted]), if_neg (by omega)]
  rfl

theorem exec_stageEntry {index : Octet} {os : List Octet} {t : State} {a : Answer} (ho : s.portOpen)
    (hl : os.length = 12) (htake : takeStageEntry index.toNat os s = (t, a)) :
    exec (.stageEntry index os) s = .next (t.answering 14 8 a.code a.data) := by
  have hops : (index :: os).length = 13 := congrArg (· + 1) hl
  have hrow := portCommand_answers .stageEntry (index :: os) ho hops rfl htake
  rw [hops] at hrow
  exact congrArg Host.Outcome.next hrow

theorem exec_clearStaged {first count : Octet} {t : State} {a : Answer} (ho : s.portOpen)
    (htake : takeClearStaged first.toNat count.toNat s = (t, a)) :
    exec (.clearStaged first count) s = .next (t.answering 3 8 a.code a.data) :=
  congrArg Host.Outcome.next (portCommand_answers .clearStaged [first, count] ho rfl rfl htake)

/-! ### Judging the staged bank (R125, R126) -/

/-- The entry at a place of the staged bank fails the first of the four checks of R125 that has this code, and none before
it. -/
def State.readyFails (s : State) (i : Nat) (c : CyclicEntry) (reason : Octet) : Prop :=
  let drive : Prop := (driveCfg s c.channel).isSome = true
  let inRound : Prop := c.offset.toNat < s.profile.period
  let crosses : Prop := ∃ l w, c.effect = .pulse l w ∧ s.profile.period ≤ c.offset.toNat + w.toNat
  (reason = 1 ∧ ¬ drive) ∨ (reason = 2 ∧ drive ∧ ¬ inRound) ∨ (reason = 3 ∧ drive ∧ inRound ∧ crosses) ∨
    (reason = 4 ∧ drive ∧ inRound ∧ ¬ crosses ∧
      ∃ j d, j < i ∧ s.cycle.stagedBank[j]? = some (some d) ∧ c.conflicts d = true)

/-- A PULSE that fires within the round crosses its end only with a width (R125). -/
theorem crossesRound_iff {c : CyclicEntry} {period : Nat} (hin : c.offset.toNat < period) :
    (∃ l w, c.effect = .pulse l w ∧ period ≤ c.offset.toNat + w.toNat) ↔
      c.effect.widthOf ≠ 0 ∧ period ≤ c.offset.toNat + c.effect.widthOf := by
  cases heff : c.effect with
  | set l => simp [Effect.widthOf]
  | toggle => simp [Effect.widthOf]
  | pulse l w =>
    simp only [Effect.widthOf, Effect.pulse.injEq]
    constructor
    · rintro ⟨_, _, ⟨rfl, rfl⟩, hcross⟩
      exact ⟨by omega, hcross⟩
    · rintro ⟨-, hcross⟩
      exact ⟨l, w, ⟨rfl, rfl⟩, hcross⟩

/-- The search of the fourth check finds a conflict with a filled place below (R126). -/
theorem conflictBelow_iff {i : Nat} {c : CyclicEntry} :
    ((List.range i).any fun j => ((s.cycle.stagedBank[j]?).join).any fun d => c.conflicts d) = true ↔
      ∃ j d, j < i ∧ s.cycle.stagedBank[j]? = some (some d) ∧ c.conflicts d = true := by
  simp only [List.any_eq_true, List.mem_range, Option.any_eq_true, Option.join_eq_some_iff]
  exact ⟨fun ⟨j, hj, d, hplace, hc⟩ => ⟨j, d, hj, hplace, hc⟩, fun ⟨j, d, hj, hplace, hc⟩ => ⟨j, hj, d, hplace, hc⟩⟩

/-- The judgement of an entry is the check of R125 that it fails first. -/
theorem readyFails_iff_judgeStaged {i : Nat} {c : CyclicEntry} {reason : Octet} :
    s.readyFails i c reason ↔ ∃ r, judgeStaged s i c = some r ∧ r.code = reason := by
  have hjudged {f : ReadyFault} (h : judgeStaged s i c = some f) :
      (∃ r, judgeStaged s i c = some r ∧ r.code = reason) ↔ reason = f.code := by
    simp [h, eq_comm]
  unfold State.readyFails
  by_cases hdrive : (driveCfg s c.channel).isSome = true
  · have hjudge : judgeStaged s i c = _ := if_neg (by simpa [Option.isSome_iff_ne_none] using hdrive)
    by_cases hin : c.offset.toNat < s.profile.period
    · rw [if_neg (Nat.not_le.2 hin)] at hjudge
      rw [crossesRound_iff hin, ← conflictBelow_iff]
      by_cases hcross : c.effect.widthOf ≠ 0 ∧ s.profile.period ≤ c.offset.toNat + c.effect.widthOf
      · rw [if_pos hcross] at hjudge
        rw [hjudged hjudge]
        simp [ReadyFault.code, hdrive, hin, hcross]
      · rw [if_neg hcross] at hjudge
        split at hjudge
        · next hconf =>
          rw [hjudged hjudge, hconf]
          simp [ReadyFault.code, hdrive, hin, hcross]
        · next hconf =>
          rw [Bool.eq_false_iff.2 hconf]
          simp [hjudge, hdrive, hin, hcross]
    · rw [if_pos (Nat.not_lt.1 hin)] at hjudge
      rw [hjudged hjudge]
      simp [ReadyFault.code, hdrive, hin]
  · have hjudge : judgeStaged s i c = some .notDrive := if_pos (by simpa using hdrive)
    rw [hjudged hjudge]
    simp [ReadyFault.code, hdrive]

/-- An entry that fails no check passes. -/
theorem judgeStaged_eq_none {i : Nat} {c : CyclicEntry} (h : ∀ reason, ¬ s.readyFails i c reason) :
    judgeStaged s i c = none := by
  rw [Option.eq_none_iff_forall_ne_some]
  exact fun r hr => h r.code (readyFails_iff_judgeStaged.2 ⟨r, hr, rfl⟩)

/-- What the search of MARK_READY finds at a place of the staged bank. -/
def State.placeFault (s : State) (i : Nat) : Option (Nat × ReadyFault) :=
  ((s.cycle.stagedBank[i]?).join).bind fun c => (judgeStaged s i c).map fun r => (i, r)

theorem stagedFault_eq (s : State) : stagedFault s = (List.range 32).findSome? s.placeFault := rfl

theorem placeFault_eq_some {i k : Nat} {r : ReadyFault} :
    s.placeFault i = some (k, r) ↔
      k = i ∧ ∃ c, s.cycle.stagedBank[i]? = some (some c) ∧ judgeStaged s i c = some r := by
  simp only [State.placeFault, Option.bind_eq_some_iff, Option.join_eq_some_iff, Option.map_eq_some_iff, Prod.mk.injEq]
  constructor
  · rintro ⟨c, hplace, _, hjudge, rfl, rfl⟩
    exact ⟨rfl, c, hplace, hjudge⟩
  · rintro ⟨rfl, c, hplace, hjudge⟩
    exact ⟨c, hplace, r, hjudge, rfl, rfl⟩

theorem placeFault_eq_none {i : Nat}
    (h : ∀ c, s.cycle.stagedBank[i]? = some (some c) → judgeStaged s i c = none) : s.placeFault i = none := by
  rw [Option.eq_none_iff_forall_ne_some]
  rintro ⟨k, r⟩ hfault
  obtain ⟨-, c, hplace, hjudge⟩ := placeFault_eq_some.1 hfault
  simp [h c hplace] at hjudge

/-- The fault of the staged bank is that of the entry at the place reported. -/
theorem stagedFault_place {i : Nat} {r : ReadyFault} (h : stagedFault s = some (i, r)) :
    ∃ c, s.cycle.stagedBank[i]? = some (some c) ∧ judgeStaged s i c = some r := by
  rw [stagedFault_eq] at h
  obtain ⟨j, -, hj⟩ := List.exists_of_findSome?_eq_some h
  obtain ⟨rfl, hfault⟩ := placeFault_eq_some.1 hj
  exact hfault

/-- The first entry that fails is the one reported (R125). -/
theorem stagedFault_first {i : Nat} {c : CyclicEntry} {r : ReadyFault}
    (hplace : s.cycle.stagedBank[i]? = some (some c)) (hjudge : judgeStaged s i c = some r)
    (hbefore : ∀ j d, j < i → s.cycle.stagedBank[j]? = some (some d) → judgeStaged s j d = none) :
    stagedFault s = some (i, r) := by
  obtain ⟨hi, -⟩ := Vector.getElem?_eq_some_iff.1 hplace
  have hrange : List.range 32 = List.range i ++ i :: (List.range (31 - i)).map (i + 1 + ·) := by
    rw [show 32 = i + 1 + (31 - i) by omega, List.range_add, List.range_succ, List.append_assoc,
      List.singleton_append]
  rw [stagedFault_eq]
  refine List.findSome?_eq_some_iff.2 ⟨_, i, _, hrange, placeFault_eq_some.2 ⟨rfl, c, hplace, hjudge⟩, fun j hj => ?_⟩
  exact placeFault_eq_none fun d => hbefore j d (List.mem_range.1 hj)

theorem stagedFault_none (h : ∀ i c, s.cycle.stagedBank[i]? = some (some c) → judgeStaged s i c = none) :
    stagedFault s = none := by
  rw [stagedFault_eq]
  exact List.findSome?_eq_none_iff.2 fun i _ => placeFault_eq_none (h i)

/-- Two selections have a round in common when their phases agree modulo the smaller period, and then only (R126): the phase
of the longer period is such a round. -/
theorem commonRound_iff {e p e' p' : Nat} (he : e ≤ 6) (he' : e' ≤ 6) (hp : p < 2 ^ e) (hp' : p' < 2 ^ e') :
    (∃ r : Word16, r.toNat % 2 ^ e = p ∧ r.toNat % 2 ^ e' = p') ↔ p % 2 ^ min e e' = p' % 2 ^ min e e' := by
  constructor
  · rintro ⟨r, rfl, rfl⟩
    rw [Nat.mod_mod_of_dvd _ (Nat.pow_dvd_pow 2 (Nat.min_le_left e e')),
      Nat.mod_mod_of_dvd _ (Nat.pow_dvd_pow 2 (Nat.min_le_right e e'))]
  · have hround (q k : Nat) (hk : k ≤ 6) (hq : q < 2 ^ k) : (BitVec.ofNat 16 q).toNat = q := by
      have hbound : 2 ^ k ≤ 2 ^ 6 := Nat.pow_le_pow_right (by decide) hk
      rw [BitVec.toNat_ofNat]
      exact Nat.mod_eq_of_lt (by omega)
    intro hphase
    rcases Nat.le_total e e' with hle | hle
    · refine ⟨BitVec.ofNat 16 p', ?_⟩
      rw [hround p' e' he' hp', Nat.mod_eq_of_lt hp']
      rw [Nat.min_eq_left hle, Nat.mod_eq_of_lt hp] at hphase
      exact ⟨hphase.symm, rfl⟩
    · refine ⟨BitVec.ofNat 16 p, ?_⟩
      rw [hround p e he hp, Nat.mod_eq_of_lt hp]
      rw [Nat.min_eq_right hle, Nat.mod_eq_of_lt hp'] at hphase
      exact ⟨rfl, hphase⟩

theorem conflicts_iff {a b : CyclicEntry} :
    a.conflicts b = true ↔ a.channel = b.channel ∧ a.offset = b.offset ∧
      a.phase % 2 ^ min a.exp b.exp = b.phase % 2 ^ min a.exp b.exp := by
  simp [CyclicEntry.conflicts, and_assoc]

/-! ### MARK_READY (R125) -/

theorem takeMarkReady_fault {i : Nat} {r : ReadyFault} (hstarted : s.port.started = true)
    (hfault : stagedFault s = some (i, r)) :
    takeMarkReady s = (s, { code := Code.invalid, data := [octetOf i, r.code] }) := by
  simp only [takeMarkReady, hstarted, Bool.not_true, Bool.false_eq_true, if_false, hfault]

theorem takeMarkReady_done (hstarted : s.port.started = true) (hfault : stagedFault s = none) :
    takeMarkReady s =
      ({ s with cycle := { s.cycle with staged := .ready } }, Answer.done [octetOf (filledPlaces s.cycle.stagedBank)]) := by
  simp only [takeMarkReady, hstarted, Bool.not_true, Bool.false_eq_true, if_false, hfault]
  rfl

theorem exec_markReady {t : State} {a : Answer} (ho : s.portOpen) (htake : takeMarkReady s = (t, a)) :
    exec .markReady s = .next (t.answering 1 8 a.code a.data) :=
  congrArg Host.Outcome.next (portCommand_answers .markReady [] ho rfl rfl htake)

end Sys2Proof.Machine
end

section
/-! SETTLED. The staged bank: its editing (O29), its judgement (O31), and the conflicts of entries (O32). -/

namespace Sys2Proof.Machine

/-- Settles O29: an accepted command is an edit of the staged bank, read place by place. -/
theorem stagedBankEdited : Obligations.StagedBankEdited := by
  refine ⟨fun os => ⟨cyclicEntryOf_eq_none, fun c hc => ?fields⟩,
    fun s index os ho hl => ⟨fun h => ?stageRefused, fun hstarted h => ?stageInvalid, fun c hstarted hi hc => ?stage⟩,
    fun s first count ho => ⟨fun h => ?clearRefused, fun hstarted h => ?clearInvalid,
      fun hstarted hfirst hcount hlast => ?clear⟩⟩
  case fields =>
    obtain ⟨hchannel, hoffset, hexp, hphase, heffect⟩ := cyclicEntryOf_eq_some hc
    refine ⟨hchannel, hoffset, hexp, hphase, fun h => ?_, fun h => ?_, fun h => ?_⟩ <;>
      exact heffect.trans (by simp only [h]; rfl)
  case stageRefused =>
    have htake : takeStageEntry index.toNat os s = _ := if_pos (by simp [h])
    exact exec_stageEntry ho hl htake
  case stageInvalid => exact exec_stageEntry ho hl (takeStageEntry_invalid hstarted h)
  case stage =>
    obtain ⟨hframe, -, hrunning, hbank⟩ :=
      editStaged_parts s (tableUpdate s.cycle.stagedBank index.toNat fun _ => some c) .editing
    refine ⟨_, ?_, hframe, hrunning, ?_, fun j hj => ?_⟩
    · rw [hbank]
      exact exec_stageEntry ho hl (takeStageEntry_done hstarted hi hc)
    · rw [hbank, tableUpdate_get_self, Vector.getElem?_eq_getElem (by omega)]
      rfl
    · rw [hbank, tableUpdate_get_ne _ _ _ _ hj]
  case clearRefused =>
    have htake : takeClearStaged first.toNat count.toNat s = _ := if_pos (by simp [h])
    exact exec_clearStaged ho htake
  case clearInvalid =>
    have htake : takeClearStaged first.toNat count.toNat s = _ :=
      (if_neg (by simp [hstarted])).trans (if_pos h)
    exact exec_clearStaged ho htake
  case clear =>
    have hplaces := clearPlaces_get s.cycle.stagedBank first.toNat count.toNat
    have htake := takeClearStaged_done (s := s) hstarted hfirst hcount hlast
    generalize clearPlaces s.cycle.stagedBank first.toNat count.toNat = bank at hplaces htake
    obtain ⟨hframe, hstaged, hrunning, hbank⟩ :=
      editStaged_parts s bank (if filledPlaces bank = 0 then .empty else .editing)
    refine ⟨_, ?_, ?_, hrunning, fun j hj hlt => ?_, fun j hj => ?_, fun hempty => ?_, fun ⟨j, c, hplace⟩ => ?_⟩
    · rw [hbank, hstaged]
      exact exec_clearStaged ho htake
    · rw [hstaged]
      exact hframe
    · rw [hbank, hplaces, if_pos ⟨hj, hlt⟩, Vector.getElem?_eq_getElem (by omega)]
      rfl
    · rw [hbank, hplaces, if_neg (by omega)]
    · rw [hbank] at hempty
      rw [hstaged]
      refine if_pos (filledPlaces_eq_zero.2 fun j c hplace => ?_)
      obtain ⟨hj, -⟩ := Vector.getElem?_eq_some_iff.1 hplace
      simp [hempty j hj] at hplace
    · rw [hbank] at hplace
      rw [hstaged]
      exact if_neg fun hzero => filledPlaces_eq_zero.1 hzero j c hplace

/-- Settles O31: the first entry that fails a check is the first fault that the search finds. -/
theorem markReadyJudges : Obligations.MarkReadyJudges := by
  intro s ho place drive inRound crosses fails
  refine ⟨fun h => ?refused, fun i c reason hstarted hplace hfails hbefore => ?fault, fun hstarted hpass => ?ready⟩
  case refused =>
    have htake : takeMarkReady s = _ := if_pos (by simp [h])
    exact exec_markReady ho htake
  case fault =>
    obtain ⟨r, hjudge, rfl⟩ := readyFails_iff_judgeStaged.1 hfails
    have hfirst := stagedFault_first hplace hjudge fun j d hj hd =>
      judgeStaged_eq_none fun x => hbefore j d x hj hd
    exact exec_markReady ho (takeMarkReady_fault hstarted hfirst)
  case ready =>
    have hnone := stagedFault_none fun i c hplace => judgeStaged_eq_none fun x => hpass i c x hplace
    exact exec_markReady ho (takeMarkReady_done hstarted hnone)

/-- Settles O32: conflicts by congruent phases, and the place below that a reported conflict is with. -/
theorem conflictMeansCommonRound : Obligations.ConflictMeansCommonRound := by
  refine ⟨fun a b ha hb hpa hpb => ?_, fun s i h => ?_⟩
  · have hcommon := commonRound_iff ha hb hpa hpb
    refine ⟨?_, hcommon⟩
    rw [conflicts_iff, ← hcommon]
  · obtain ⟨c, hplace, hjudge⟩ := stagedFault_place h
    have hfails : s.readyFails i c 4 := readyFails_iff_judgeStaged.2 ⟨_, hjudge, rfl⟩
    rcases hfails with ⟨hcode, -⟩ | ⟨hcode, -⟩ | ⟨hcode, -⟩ | ⟨-, -, -, -, j, d, hj, hd, hconf⟩
    · exact absurd hcode (by decide)
    · exact absurd hcode (by decide)
    · exact absurd hcode (by decide)
    · exact ⟨j, c, d, hj, hplace, hd, hconf⟩

end Sys2Proof.Machine
end

section
/-! SUPPORT. The swap of the banks: a proposal, and what a round start makes of the pending round (R131, R133 to R137). -/

namespace Sys2Proof.Machine

variable {s : State} {r : Word16}

/-! ### Proposals (R131, R133) -/

theorem propose_stale (h : numBefore s.timebase.round r = false) : propose r s = raise .swapStale s :=
  if_pos (by simp [h])

theorem propose_first (h : numBefore s.timebase.round r = true) (hnone : s.cycle.pendingSwap = none) :
    propose r s = { s with cycle := { s.cycle with pendingSwap := some r } } := by
  simp only [propose, h, Bool.not_true, Bool.false_eq_true, if_false, hnone, cycleUpdate]

/-- Of the pending round and a later proposal the earlier is pending (R133). -/
theorem propose_second {q : Word16} (h : numBefore s.timebase.round r = true) (hq : s.cycle.pendingSwap = some q) :
    propose r s = if numBefore r q then { s with cycle := { s.cycle with pendingSwap := some r } } else s := by
  simp only [propose, h, Bool.not_true, Bool.false_eq_true, if_false, hq, cycleUpdate]

/-- Putting back the swap round that is pending changes nothing. -/
theorem withPendingSwap_same {q : Word16} (hq : s.cycle.pendingSwap = some q) :
    { s with cycle := { s.cycle with pendingSwap := some q } } = s := by
  rw [← hq]

/-- A proposal that lies ahead leaves the earlier of the two rounds pending, whichever it is (R131, R133). -/
theorem propose_ahead (h : numBefore s.timebase.round r = true) :
    propose r s =
      { s with cycle :=
          { s.cycle with
            pendingSwap := some (s.cycle.pendingSwap.elim r fun q => if numBefore r q then r else q) } } := by
  cases hq : s.cycle.pendingSwap with
  | none => exact propose_first h hq
  | some q =>
    rw [propose_second h hq]
    by_cases hearlier : numBefore r q = true
    · simp only [hearlier, if_true, Option.elim]
    · simp only [hearlier, Option.elim]
      exact (withPendingSwap_same hq).symm

/-- The rounds that PROPOSE_SWAP accepts lie after the current one (R131). -/
theorem numBefore_of_ahead {cur : Word16} (hlow : 2 ≤ (r - cur).toNat) (hhigh : (r - cur).toNat ≤ 1000) :
    numBefore cur r = true :=
  decide_eq_true ⟨by omega, by omega⟩

theorem takeProposeSwap_refused (h : s.timebase.sync ≠ .synced) :
    takeProposeSwap r s = (s, Answer.only Code.refusedState) := by
  cases hsync : s.timebase.sync <;> simp_all [takeProposeSwap]

theorem takeProposeSwap_synced (h : s.timebase.sync = .synced) :
    takeProposeSwap r s =
      if (r - s.timebase.round).toNat < 2 ∨ 1000 < (r - s.timebase.round).toNat then (s, Answer.only Code.invalid)
      else
        (propose r s, Answer.done
          (le 2 ((propose r s).cycle.pendingSwap.getD 0).toNat ++
            [flagOctet ((propose r s).cycle.pendingSwap.getD 0 == r)])) := by
  simp only [takeProposeSwap, h]

/-- The round proposed, as the operand of PROPOSE_SWAP. -/
theorem exec_proposeSwap {t : State} {a : Answer} (ho : s.portOpen) (htake : takeProposeSwap r s = (t, a)) :
    exec (.proposeSwap r) s = .next (t.answering 3 8 a.code a.data) := by
  rw [← operand_word r] at htake
  exact congrArg Host.Outcome.next (portCommand_answers .proposeSwap (le 2 r.toNat) ho rfl rfl htake)

/-! ### The swap (R135 to R137) -/

/-- The banks and the rest of the cycle unit after an executed swap (R136). -/
theorem swapped_banks (c : CycleUnit) :
    c.swapped.running ≠ c.running ∧ c.swapped.stagedBank = emptyBank ∧
      c.swapped = { c with
        bankA := c.swapped.bankA, bankB := c.swapped.bankB, running := c.swapped.running, staged := .empty,
        generation := c.generation + 1, skip := false, pendingSwap := none } := by
  cases hrun : c.running <;> simp [CycleUnit.swapped, CycleUnit.stagedBank, hrun]

theorem takeSwap_executed (hdue : s.cycle.pendingSwap = some s.timebase.round) (hready : s.cycle.staged = .ready) :
    takeSwap s = raise .swapDone (cycleUpdate CycleUnit.swapped s) := by
  simp only [takeSwap, hdue, if_true, hready]

theorem takeSwap_skipped (hdue : s.cycle.pendingSwap = some s.timebase.round) (hready : s.cycle.staged ≠ .ready) :
    takeSwap s = raise .swapSkipped { s with cycle := { s.cycle with skip := true, pendingSwap := none } } := by
  cases hstaged : s.cycle.staged with
  | empty => simp only [takeSwap, hdue, if_true, hstaged, cycleUpdate]
  | editing => simp only [takeSwap, hdue, if_true, hstaged, cycleUpdate]
  | ready => exact absurd hstaged hready

theorem takeSwap_notDue (h : s.cycle.pendingSwap ≠ some s.timebase.round) :
    takeSwap s = { s with cycle := { s.cycle with skip := false } } :=
  if_neg h

end Sys2Proof.Machine
end

section
/-! SETTLED. PROPOSE_SWAP (O33), and the swap agreed, executed or skipped (O34). -/

namespace Sys2Proof.Machine

/-- Settles O33: a round in the window lies ahead, so the earlier of the two rounds is pending. -/
theorem proposeSwapJudged : Obligations.ProposeSwapJudged := by
  intro s r ho
  refine ⟨fun h => exec_proposeSwap ho (takeProposeSwap_refused h), fun hsync h => ?invalid,
    fun hsync hlow hhigh => ?pending⟩
  case invalid => exact exec_proposeSwap ho ((takeProposeSwap_synced hsync).trans (if_pos h))
  case pending =>
    intro pending
    have hpropose : propose r s = { s with cycle := { s.cycle with pendingSwap := some pending } } := by
      rw [propose_ahead (numBefore_of_ahead hlow hhigh)]
      simp only [pending]
      cases s.cycle.pendingSwap <;> rfl
    have htake := (takeProposeSwap_synced (r := r) hsync).trans (if_neg (by omega))
    rw [hpropose] at htake
    rw [exec_proposeSwap ho htake]
    simp only [Option.getD_some, flagOctet, beq_iff_eq]
    rfl

/-- Settles O34: the cases of a proposal, and those of the pending round at a round start. -/
theorem swapAgreedAndTaken : Obligations.SwapAgreedAndTaken := by
  refine ⟨fun s r => ⟨propose_stale, fun h =>
      ⟨propose_first h, fun q hq => ⟨fun hearlier => ?earlier, fun hlater => ?later⟩⟩⟩,
    fun s => ⟨fun hdue hready => ?executed, takeSwap_skipped, takeSwap_notDue⟩⟩
  case earlier => rw [propose_second h hq, if_pos hearlier]
  case later =>
    rw [propose_second h hq, hlater]
    rfl
  case executed =>
    obtain ⟨hrunning, hstaged, hrest⟩ := swapped_banks s.cycle
    obtain ⟨hbank, -⟩ := swapped_parts s.cycle
    rw [takeSwap_executed hdue hready]
    refine ⟨hbank, hrunning, fun j hj => ?_, hrest, rfl, rfl⟩
    have hempty : (raise .swapDone (cycleUpdate CycleUnit.swapped s)).cycle.stagedBank = emptyBank := hstaged
    rw [hempty, emptyBank, Vector.getElem?_replicate, if_pos hj]

end Sys2Proof.Machine
end

section
/-! SUPPORT. The fires of the cycle unit one by one: the first of those due, what it makes of the rest, and the request and
the pulse end that it adds (R127 to R130, R157). -/

namespace Sys2Proof.Machine

variable {s : State}

/-! ### One fire (R128) -/

/-- The state in which a fire has left the fire list (R128). -/
def State.withoutFire (s : State) (d : CyclicDue) : State :=
  cycleUpdate (fun c => { c with fireList := c.fireList.filter fun x => x.index != d.index }) s

/-- The request that a fire brings its channel (R128). -/
def CyclicDue.request (d : CyclicDue) (level : Option Level) : LevelReq :=
  { kind := .cyclicStart, due := d.instant, key := d.index, index := d.index, level := level }

/-- The pulse end that the fire of a PULSE adds in the step of this number (R128). -/
def CyclicDue.pulseEnd (d : CyclicDue) (level : Level) (width : Word32) (step : Nat) : CyclicEnd :=
  { channel := d.entry.channel, after := oppositeLevel level, index := d.index
    instant := d.instant + width.setWidth 48, since := step }

/-- A channel's request and a change of the cycle unit do not meet. -/
theorem requestLevel_cycleUpdate (c : Nat) (r : LevelReq) (f : CycleUnit → CycleUnit) (s : State) :
    requestLevel c r (cycleUpdate f s) = cycleUpdate f (requestLevel c r s) := by
  have hcfg : driveCfg (cycleUpdate f s) c = driveCfg s c := rfl
  simp only [requestLevel, driveUpdate, hcfg]
  split <;> rfl

/-- Only the fire itself leaves a fire list in which no other has its index. -/
theorem withoutFire_split {before after : List CyclicDue} {d : CyclicDue} (hlist : s.cycle.fireList = before ++ d :: after)
    (hother : ∀ x, x ∈ before ++ after → x.index ≠ d.index) :
    s.withoutFire d = { s with cycle := { s.cycle with fireList := before ++ after } } := by
  have hkept : (before ++ d :: after).filter (fun x => x.index != d.index) = before ++ after := by
    have hall : (before ++ after).filter (fun x => x.index != d.index) = before ++ after :=
      List.filter_eq_self.2 fun x hx => by simpa using hother x hx
    rw [← hall]
    simp [List.filter_append]
  rw [State.withoutFire, cycleUpdate, hlist, hkept]

theorem fireCyclic_held (d : CyclicDue) (h : s.cycle.held = true) : fireCyclic d s = s.withoutFire d :=
  if_pos h

theorem fireCyclic_set {d : CyclicDue} {l : Level} (h : s.cycle.held = false) (heff : d.entry.effect = .set l) :
    fireCyclic d s = requestLevel d.entry.channel (d.request (some l)) (s.withoutFire d) := by
  simp only [fireCyclic, h, Bool.false_eq_true, if_false, heff]
  rfl

theorem fireCyclic_toggle {d : CyclicDue} (h : s.cycle.held = false) (heff : d.entry.effect = .toggle) :
    fireCyclic d s = requestLevel d.entry.channel (d.request none) (s.withoutFire d) := by
  simp only [fireCyclic, h, Bool.false_eq_true, if_false, heff]
  rfl

/-- The fire of a PULSE adds its pulse end beside its request (R128). -/
theorem fireCyclic_pulse {d : CyclicDue} {l : Level} {w : Word32} (h : s.cycle.held = false)
    (heff : d.entry.effect = .pulse l w) :
    fireCyclic d s =
      requestLevel d.entry.channel (d.request (some l))
        (cycleUpdate (fun c => { c with pulseEnds := c.pulseEnds ++ [d.pulseEnd l w s.timebase.stepNo] })
          (s.withoutFire d)) := by
  rw [requestLevel_cycleUpdate, CyclicDue.pulseEnd, ← BitVec.ofNat_toNat]
  simp only [fireCyclic, h, Bool.false_eq_true, if_false, heff]
  rfl

/-! ### The order of the due fires (R127, R128) -/

/-- The due fires stand in index order. -/
theorem dueCyclic_sorted (s : State) : (dueCyclic s).Pairwise fun a b => a.index ≤ b.index :=
  sortOrdered_pairwise (le := fun a b : CyclicDue => a.index ≤ b.index)
    (fun _ _ h => Nat.le_of_lt (of_decide_eq_true h)) (fun _ _ h => Nat.not_lt.1 (of_decide_eq_false h))
    (fun _ _ _ => Nat.le_trans) _

/-- The due fires of a fire list without a repeated index rise. -/
theorem dueCyclic_rising (h : s.cycle.fireList.Pairwise fun x y => x.index ≠ y.index) :
    (dueCyclic s).Pairwise fun a b => a.index < b.index := by
  have hdistinct : (dueCyclic s).Pairwise fun a b => a.index ≠ b.index :=
    ((sortOrdered_perm _ _).pairwise_iff fun hne => Ne.symm hne).2 (h.filter _)
  exact ((dueCyclic_sorted s).and hdistinct).imp fun ⟨hle, hne⟩ => Nat.lt_of_le_of_ne hle hne

/-- After a fire the others that were due are due (R128). -/
theorem dueCyclic_fireCyclic (d : CyclicDue) (h : s.cycle.fireList.Pairwise fun x y => x.index ≠ y.index) :
    dueCyclic (fireCyclic d s) = (dueCyclic s).filter fun x => x.index != d.index := by
  have hleft : (fireCyclic d s).cycle.fireList.Pairwise fun x y => x.index ≠ y.index := by
    rw [fireCyclic_fireList]
    exact h.filter _
  refine List.Perm.eq_of_pairwise (fun a b _ _ hab hba => absurd hab (Nat.lt_asymm hba)) (dueCyclic_rising hleft)
    ((dueCyclic_rising h).filter _) ?_
  refine (sortOrdered_perm _ _).trans ?_
  rw [fireCyclic_fireList, List.filter_comm]
  simp only [fireCyclic_frame]
  exact ((sortOrdered_perm _ _).filter _).symm

/-- An element of a sorted list whose key no other one reaches is the first. -/
theorem head_of_sorted {α : Type} {key : α → Nat} {l : List α} {d : α} (hl : l.Pairwise fun a b => key a ≤ key b)
    (hd : d ∈ l) (hleast : ∀ x ∈ l, x = d ∨ key d < key x) : ∃ rest, l = d :: rest := by
  cases l with
  | nil => simp at hd
  | cons x rest =>
    refine ⟨rest, ?_⟩
    rcases hleast x (by simp) with rfl | hlt
    · rfl
    · rcases List.mem_cons.1 hd with rfl | hd
      · rfl
      · exact absurd ((List.pairwise_cons.1 hl).1 d hd) (Nat.not_le.2 hlt)

/-- A rising list less its first key is its tail. -/
theorem filter_head_of_rising {d : CyclicDue} {rest : List CyclicDue}
    (h : (d :: rest).Pairwise fun a b => a.index < b.index) :
    (d :: rest).filter (fun x => x.index != d.index) = rest := by
  rw [List.filter_cons_of_neg (by simp)]
  refine List.filter_eq_self.2 fun x hx => ?_
  simpa using Nat.ne_of_gt ((List.pairwise_cons.1 h).1 x hx)

/-! ### CYCLIC_FIRE and the fires of a round start (R127, R128) -/

theorem dueCyclic_none (h : ∀ d, d ∈ s.cycle.fireList → reached s.timebase.nt d.instant = false) :
    dueCyclic s = [] := by
  refine List.eq_nil_iff_forall_not_mem.2 fun d hd => ?_
  obtain ⟨hmem, hdue⟩ := mem_dueCyclic.1 hd
  exact Bool.false_ne_true ((h d hmem).symm.trans hdue)

/-- CYCLIC_FIRE takes a due fire whose index lies below that of every other due fire (R128). -/
theorem takeCyclicFire_least {d : CyclicDue} (hd : d ∈ dueCyclic s)
    (hleast : ∀ x ∈ dueCyclic s, x = d ∨ d.index < x.index) : takeCyclicFire s = fireCyclic d s := by
  obtain ⟨rest, hdue⟩ := head_of_sorted (dueCyclic_sorted s) hd hleast
  simp only [takeCyclicFire, hdue]

/-- Taking the due fires begins with CYCLIC_FIRE (R127). -/
theorem takeDueCyclic_takeCyclicFire (h : s.cycle.fireList.Pairwise fun x y => x.index ≠ y.index) :
    takeDueCyclic (takeCyclicFire s) = takeDueCyclic s := by
  cases hdue : dueCyclic s with
  | nil =>
    have hstays : takeCyclicFire s = s := by simp only [takeCyclicFire, hdue]
    rw [hstays]
  | cons d rest =>
    have hfire : takeCyclicFire s = fireCyclic d s := by simp only [takeCyclicFire, hdue]
    have hrest : dueCyclic (fireCyclic d s) = rest := by
      rw [dueCyclic_fireCyclic d h, hdue]
      exact filter_head_of_rising (hdue ▸ dueCyclic_rising h)
    rw [takeDueCyclic, takeDueCyclic, hdue, hfire, hrest, List.foldl_cons, hfire]

/-- The cycle unit takes a round start as it takes the due fires, then the swap and the new fire list (R127). -/
theorem cycleRoundStart_congr {a b : State} (h : takeDueCyclic a = takeDueCyclic b) :
    cycleRoundStart a = cycleRoundStart b := by
  simp only [cycleRoundStart, h]

/-- A swap leaves the pulse ends pending (R136). -/
theorem atRound_pulseEnds (round : Word16) (c : CycleUnit) : (c.atRound round).pulseEnds = c.pulseEnds := by
  unfold CycleUnit.atRound CycleUnit.swapped
  split
  · split
    · split <;> rfl
    · rfl
  · rfl

/-- Beside the due fires a round start touches neither the channels nor the pulse ends (R127). -/
theorem cycleRoundStart_outputs (s : State) :
    (cycleRoundStart s).channels = (takeDueCyclic s).channels ∧
      (cycleRoundStart s).cycle.pulseEnds = (takeDueCyclic s).cycle.pulseEnds := by
  have hchannels : (cycleRoundStart s).channels = (takeSwap (takeDueCyclic s)).channels := by
    simp only [cycleRoundStart]
    split <;> rfl
  refine ⟨hchannels.trans (by simp), ?_⟩
  rw [cycleRoundStart_cycle, takeSwap_cycle]
  exact atRound_pulseEnds _ _

/-- An untrusted round start empties the fire list (R127). -/
theorem cycleRoundStart_fireList_untrusted (h : trusted s.timebase.sync = false) :
    (cycleRoundStart s).cycle.fireList = [] := by
  rw [cycleRoundStart_cycle, h]
  rfl

/-- The fire list of a round start: in a trusted state every entry of the bank that runs then which selects the round
(R127). -/
theorem mem_cycleRoundStart_fireList {d : CyclicDue} :
    d ∈ (cycleRoundStart s).cycle.fireList ↔ trusted s.timebase.sync = true ∧
      (cycleRoundStart s).cycle.runningBank[d.index]? = some (some d.entry) ∧
      s.timebase.round.toNat % 2 ^ d.entry.exp = d.entry.phase ∧
      d.instant = s.timebase.rs + d.entry.offset.setWidth 48 := by
  cases h : trusted s.timebase.sync with
  | false => simp [cycleRoundStart_fireList_untrusted h]
  | true =>
    rw [cycleRoundStart_fireList h, mem_fireListOf]
    simp only [cycleRoundStart_frame, true_and]

theorem trusted_eq_true_iff {y : Sync} : trusted y = true ↔ y = .synced ∨ y = .holdover := by
  cases y <;> simp [trusted]

/-! ### The fires before a release (R130, R157) -/

/-- The due fires at offset 0, in index order. -/
theorem mem_dueOffsetZero {d : CyclicDue} :
    d ∈ (dueCyclic s).filter (fun d => d.entry.offset == 0) ↔
      d ∈ s.cycle.fireList ∧ reached s.timebase.nt d.instant = true ∧ d.entry.offset = 0 := by
  rw [List.mem_filter, mem_dueCyclic, beq_iff_eq]
  exact and_assoc

theorem takeOffsetZero_none (n : Nat)
    (h : ∀ d, d ∈ s.cycle.fireList → ¬ (reached s.timebase.nt d.instant = true ∧ d.entry.offset = 0)) :
    takeOffsetZero n s = s := by
  have hnone : (dueCyclic s).filter (fun d => d.entry.offset == 0) = [] :=
    List.eq_nil_iff_forall_not_mem.2 fun d hd => by
      obtain ⟨hmem, hfirst⟩ := mem_dueOffsetZero.1 hd
      exact h d hmem hfirst
  rw [takeOffsetZero, hnone, List.take_nil, List.foldl_nil]

/-- The fires at offset 0 begin with the one of the lowest index (R130, R157). -/
theorem takeOffsetZero_succ {d : CyclicDue} (n : Nat)
    (hdistinct : s.cycle.fireList.Pairwise fun x y => x.index ≠ y.index)
    (hd : d ∈ (dueCyclic s).filter fun d => d.entry.offset == 0)
    (hleast : ∀ x ∈ (dueCyclic s).filter (fun d => d.entry.offset == 0), d.index ≤ x.index) :
    takeOffsetZero (n + 1) s = takeOffsetZero n (fireCyclic d s) := by
  have hrising := (dueCyclic_rising hdistinct).filter fun d => d.entry.offset == 0
  obtain ⟨hmem, -⟩ := mem_dueOffsetZero.1 hd
  have hsymm : Std.Symm fun x y : CyclicDue => x.index ≠ y.index := ⟨fun _ _ hne => Ne.symm hne⟩
  obtain ⟨rest, hzero⟩ := head_of_sorted (hrising.imp Nat.le_of_lt) hd fun x hx => by
    obtain ⟨hx', -⟩ := mem_dueOffsetZero.1 hx
    by_cases hxd : x = d
    · exact .inl hxd
    · exact .inr (Nat.lt_of_le_of_ne (hleast x hx)
        (hdistinct.forall hmem hx' (Ne.symm hxd)))
  have hrest : (dueCyclic (fireCyclic d s)).filter (fun d => d.entry.offset == 0) = rest := by
    rw [dueCyclic_fireCyclic d hdistinct, List.filter_comm, hzero]
    exact filter_head_of_rising (hzero ▸ hrising)
  rw [takeOffsetZero, takeOffsetZero, hzero, hrest, List.take_succ_cons, List.foldl_cons]

/-! ### CYCLIC_PULSE_END (R129) -/

theorem takeCyclicEnd_split {before after : List CyclicEnd} {e : CyclicEnd}
    (hlist : s.cycle.pulseEnds = before ++ e :: after) (hdue : e.isDue s = true) :
    takeCyclicEnd before.length s =
      requestLevel e.channel
        { kind := .cyclicEnd, due := e.instant, key := e.index, index := e.index, level := some e.after }
        { s with cycle := { s.cycle with pulseEnds := before ++ after } } := by
  have hplace : s.cycle.pulseEnds[before.length]? = some e := by simp [hlist]
  have herase : s.cycle.pulseEnds.eraseIdx before.length = before ++ after := by
    simp [hlist, List.eraseIdx_append_of_length_le]
  simp only [takeCyclicEnd, hplace, hdue, if_true, cycleUpdate, herase]

end Sys2Proof.Machine
end

section
/-! SETTLED. The fire list, the cyclic fires and their pulse ends (O35). -/

namespace Sys2Proof.Machine

/-- Settles O35: the fire list by its places, one fire by its effect, and the due fires by their order. -/
theorem cyclicFiresAndPulseEnds : Obligations.CyclicFiresAndPulseEnds := by
  refine ⟨fun s d => ?fireList, fun s before after d hlist hother => ⟨fun hdue hleast => ?least, fun hheld => ?held,
      fun hheld => ⟨fun l heff => ?set, fun heff => ?toggle, fun l w heff => ?pulse⟩⟩,
    fun s => ⟨fun hnone => ?noFire, fun u hdistinct hfire => ?firesFirst⟩,
    fun s n => ⟨rfl, fun hnone => takeOffsetZero_none n hnone, fun d hd hfirst hdistinct hleast => ?offsetZero⟩,
    fun s before after e hlist hsince hdue => ?pulseEnd⟩
  case fireList =>
    intro t
    rw [← trusted_eq_true_iff]
    exact mem_cycleRoundStart_fireList
  case least =>
    have hd : d ∈ s.cycle.fireList := by simp [hlist]
    refine congrArg Host.Outcome.next (takeCyclicFire_least (mem_dueCyclic.2 ⟨hd, hdue⟩) fun x hx => ?_)
    obtain ⟨hmem, hxdue⟩ := mem_dueCyclic.1 hx
    have hplace : x ∈ before ++ d :: after := hlist ▸ hmem
    rcases List.mem_cons.1 (List.perm_middle.mem_iff.1 hplace) with rfl | hx'
    · exact .inl rfl
    · exact .inr (hleast x hx' hxdue)
  case held => exact (fireCyclic_held d hheld).trans (withoutFire_split hlist hother)
  case set => rw [fireCyclic_set hheld heff, withoutFire_split hlist hother]; rfl
  case toggle => rw [fireCyclic_toggle hheld heff, withoutFire_split hlist hother]; rfl
  case pulse => rw [fireCyclic_pulse hheld heff, withoutFire_split hlist hother]; rfl
  case noFire =>
    have hstays : takeDueCyclic s = s := by rw [takeDueCyclic, dueCyclic_none hnone, List.foldl_nil]
    have houtputs := cycleRoundStart_outputs s
    rw [hstays] at houtputs
    exact houtputs
  case firesFirst =>
    have hu : takeCyclicFire s = u := Host.Outcome.next.inj hfire
    rw [← hu]
    exact cycleRoundStart_congr (takeDueCyclic_takeCyclicFire hdistinct).symm
  case offsetZero =>
    refine takeOffsetZero_succ n hdistinct (mem_dueOffsetZero.2 ⟨hd, hfirst⟩) fun x hx => ?_
    obtain ⟨hmem, hxfirst⟩ := mem_dueOffsetZero.1 hx
    exact hleast x hmem hxfirst
  case pulseEnd =>
    have hisDue : e.isDue s = true := Bool.and_eq_true_iff.2 ⟨decide_eq_true hsince, hdue⟩
    exact congrArg Host.Outcome.next (takeCyclicEnd_split hlist hisDue)

end Sys2Proof.Machine
end

section
/-! SUPPORT. The reasons of the hold unit, case by case (R147, R150 to R153), and the HOLD line (R149). -/

namespace Sys2Proof.Machine

variable {s : State}

/-! ### A reason added or removed (R152, R153) -/

theorem addReason_held (r : Reason) (h : s.hold.held = true) :
    addReason r s = { s with hold := { s.hold.setReason r true with releasePending := false } } :=
  if_pos h

theorem addReason_released (r : Reason) (h : s.hold.held = false) :
    addReason r s = enterHeld { s with hold := s.hold.setReason r true } :=
  if_neg (by simp [h])

/-- Release pending is set where the reason removed was the last one of a HELD unit (R153). -/
theorem removeReason_eq (r : Reason) (s : State) :
    removeReason r s =
      let h := s.hold.setReason r false
      { s with hold := { h with releasePending := h.releasePending || (h.held && h.noReason) } } := by
  refine congrArg (fun h => { s with hold := h }) ?_
  cases hlast : (s.hold.setReason r false).held && (s.hold.setReason r false).noReason with
  | true => simp only [hlast, if_true, Bool.or_true]
  | false => simp only [hlast, Bool.false_eq_true, if_false, Bool.or_false]

/-- The hold unit after the entry into HELD (R147, R152). -/
theorem enterHeld_hold (s : State) :
    (enterHeld s).hold =
      { s.hold with
        held := true, releasePending := false, reasonCommand := s.hold.reasonCommand || s.profile.manual } := by
  simp [enterHeld]

/-! ### HOLD and RELEASE (R150, R151) -/

theorem takeHold_notStarted (h : s.port.started = false) : takeHold s = (s, Answer.only Code.refusedState) :=
  if_pos (by simp [h])

theorem takeHold_started (h : s.port.started = true) :
    takeHold s = (addReason .command s, Answer.done (holdData (addReason .command s).hold)) :=
  if_neg (by simp [h])

theorem exec_hold {t : State} {a : Answer} (ho : s.portOpen) (htake : takeHold s = (t, a)) :
    exec .hold s = .next (t.answering 1 8 a.code a.data) :=
  congrArg Host.Outcome.next (portCommand_answers .hold [] ho rfl rfl htake)

/-- After START, COMMAND added is what HOLD does, and the data are those of the hold unit that it leaves (R150). -/
theorem exec_hold_started {t : State} (ho : s.portOpen) (hstarted : s.port.started = true)
    (hadd : addReason .command s = t) : exec .hold s = .next (t.answering 1 8 0x01 (holdData t.hold)) :=
  exec_hold ho (hadd ▸ takeHold_started hstarted)

theorem takeRelease_notStarted (h : s.port.started = false) : takeRelease s = (s, Answer.only Code.refusedState) :=
  if_pos (by simp [h])

theorem takeRelease_refused (h : s.port.started = true)
    (hstands : s.hold.reasonSync = true ∨ s.hold.reasonLine = true) :
    takeRelease s = (s, { code := Code.holdReasons, data := [octetOf s.hold.reasons] }) := by
  have hreason : (s.hold.reasonSync || s.hold.reasonLine) = true := by simpa using hstands
  simp [takeRelease, h, hreason]

theorem takeRelease_done (h : s.port.started = true) (hsync : s.hold.reasonSync = false)
    (hline : s.hold.reasonLine = false) :
    takeRelease s = (removeReason .command s, Answer.done (holdData (removeReason .command s).hold)) := by
  simp [takeRelease, h, hsync, hline]

theorem exec_release {t : State} {a : Answer} (ho : s.portOpen) (htake : takeRelease s = (t, a)) :
    exec .release s = .next (t.answering 1 8 a.code a.data) :=
  congrArg Host.Outcome.next (portCommand_answers .release [] ho rfl rfl htake)

/-- With no reason that refuses it, RELEASE removes COMMAND, and the data are those of the hold unit that it leaves
(R151). -/
theorem exec_release_done {t : State} (ho : s.portOpen) (hstarted : s.port.started = true)
    (hsync : s.hold.reasonSync = false) (hline : s.hold.reasonLine = false) (hremove : removeReason .command s = t) :
    exec .release s = .next (t.answering 1 8 0x01 (holdData t.hold)) :=
  exec_release ho (hremove ▸ takeRelease_done hstarted hsync hline)

/-- COMMAND as the only reason that can stand: its removal sets release pending in a HELD unit (R151, R153). -/
theorem removeReason_command_held (hheld : s.hold.held = true) (hsync : s.hold.reasonSync = false)
    (hline : s.hold.reasonLine = false) :
    removeReason .command s = { s with hold := { s.hold with reasonCommand := false, releasePending := true } } := by
  simp [removeReason_eq, HoldUnit.setReason, HoldUnit.noReason, hheld, hsync, hline]

/-- A RELEASED unit holds no reason and no release pending (R152, R153). -/
theorem HoldUnit.consistent.released {h : HoldUnit} (hcons : h.consistent) (hheld : h.held = false) :
    h.reasonSync = false ∧ h.reasonLine = false ∧ h.reasonCommand = false ∧ h.releasePending = false := by
  obtain ⟨hnone, hpending⟩ := hcons
  have hreasons := hnone hheld
  simp only [HoldUnit.noReason, Bool.and_eq_true, Bool.not_eq_true'] at hreasons
  obtain ⟨⟨hsync, hline⟩, hcommand⟩ := hreasons
  refine ⟨hsync, hline, hcommand, Bool.eq_false_iff.2 fun hset => ?_⟩
  obtain ⟨hstillHeld, -⟩ := hpending.1 hset
  exact Bool.false_ne_true (hheld.symm.trans hstillHeld)

/-- COMMAND removed where it does not stand, in a RELEASED unit, changes nothing (R151). -/
theorem removeReason_command_released (hheld : s.hold.held = false) (hcommand : s.hold.reasonCommand = false) :
    removeReason .command s = s := by
  have hsame : s.hold.setReason .command false = s.hold := by rw [HoldUnit.setReason, ← hcommand]
  have hkept : (s.hold.held && s.hold.noReason) = false := by rw [hheld, Bool.false_and]
  simp only [removeReason_eq, hsame, hkept, Bool.or_false]

/-! ### The HOLD line (R149) -/

/-- HOLD is ACTIVE at the level that the setting names. -/
theorem holdSample_used {setting : HoldLine} {level : Level} {active : Bool}
    (h : (setting = .activeHigh ∧ active = decide (level = .high)) ∨
      (setting = .activeLow ∧ active = decide (level = .low))) :
    holdSample setting level = some active := by
  obtain ⟨rfl, rfl⟩ | ⟨rfl, rfl⟩ := h <;> rfl

theorem sampleHold_notUsed (h : s.profile.holdLine = .notUsed) : sampleHold s = s := by
  simp only [sampleHold, h, holdSample]

section Sampled

variable {active : Bool} (hsample : holdSample s.profile.holdLine s.pins.hold = some active)
include hsample

theorem sampleHold_same (h : active = s.hold.lineActive) :
    sampleHold s = { s with hold := { s.hold with lineRun := 0 } } := by
  simp only [sampleHold, hsample, holdUpdate, if_pos h]

theorem sampleHold_differing (h : active ≠ s.hold.lineActive) (hrun : s.hold.lineRun < 3) :
    sampleHold s = { s with hold := { s.hold with lineRun := s.hold.lineRun + 1 } } := by
  have hfew : ¬ 4 ≤ s.hold.lineRun + 1 := by omega
  simp only [sampleHold, hsample, holdUpdate, if_neg h, if_neg hfew]

theorem sampleHold_fourth (h : active ≠ s.hold.lineActive) (hrun : s.hold.lineRun = 3) :
    sampleHold s = { s with hold := { s.hold with lineDue := true } } := by
  have hfour : 4 ≤ s.hold.lineRun + 1 := by omega
  simp only [sampleHold, hsample, holdUpdate, if_neg h, if_pos hfour]

end Sampled

theorem takeHoldLine_active (hdue : s.hold.lineDue = true) (h : s.hold.lineActive = false) :
    takeHoldLine s =
      addReason .line { s with hold := { s.hold with lineActive := true, lineRun := 0, lineDue := false } } := by
  simp [takeHoldLine, hdue, h, holdUpdate]

theorem takeHoldLine_inactive (hdue : s.hold.lineDue = true) (h : s.hold.lineActive = true) :
    takeHoldLine s =
      removeReason .line { s with hold := { s.hold with lineActive := false, lineRun := 0, lineDue := false } } := by
  simp [takeHoldLine, hdue, h, holdUpdate]

end Sys2Proof.Machine
end

section
/-! SETTLED. HOLD and RELEASE (O36), and the HOLD line (O38). -/

namespace Sys2Proof.Machine

/-- Settles O36: the reason COMMAND added or removed by the hold state, and the data read from the result. -/
theorem holdAndReleaseCommands : Obligations.HoldAndReleaseCommands := by
  refine ⟨fun s ho => ⟨fun h => exec_hold ho (takeHold_notStarted h), fun hstarted hheld => ?held,
      fun hstarted hheld => ?enters⟩,
    fun s ho => ⟨fun h => exec_release ho (takeRelease_notStarted h),
      fun hstarted hstands => exec_release ho (takeRelease_refused hstarted hstands),
      fun hstarted hsync hline hheld => ?pending, fun hstarted hcons hheld => ?released⟩⟩
  case held =>
    rw [exec_hold_started ho hstarted (addReason_held .command hheld)]
    simp [holdData, HoldUnit.setReason, HoldUnit.reasons, flagOctet, hheld]
  case enters =>
    rw [exec_hold_started ho hstarted (addReason_released .command hheld), enterHeld_hold]
    simp [holdData, HoldUnit.setReason, HoldUnit.reasons, flagOctet]
  case pending =>
    rw [exec_release_done ho hstarted hsync hline (removeReason_command_held hheld hsync hline)]
    simp [holdData, HoldUnit.reasons, flagOctet, octetOf, hsync, hline, hheld]
  case released =>
    obtain ⟨hsync, hline, hcommand, hpending⟩ := hcons.released hheld
    rw [exec_release_done ho hstarted hsync hline (removeReason_command_released hheld hcommand)]
    simp [holdData, HoldUnit.reasons, flagOctet, octetOf, hsync, hline, hcommand, hheld, hpending]

/-- Settles O38: a sample by the accepted state and the run, and the change taken by its direction. -/
theorem holdLineAccepted : Obligations.HoldLineAccepted := by
  refine ⟨fun s => ⟨sampleHold_notUsed, fun active hused => ?sampled⟩,
    fun s hdue => ⟨fun hactive => ⟨fun hheld => ?held, fun hheld => ?enters⟩, fun hactive => ?removed⟩⟩
  case sampled =>
    have hsample := holdSample_used hused
    exact ⟨sampleHold_same hsample, sampleHold_differing hsample, sampleHold_fourth hsample⟩
  case held =>
    exact congrArg Host.Outcome.next ((takeHoldLine_active hdue hactive).trans (addReason_held .line hheld))
  case enters =>
    exact congrArg Host.Outcome.next ((takeHoldLine_active hdue hactive).trans (addReason_released .line hheld))
  case removed =>
    refine congrArg Host.Outcome.next ((takeHoldLine_inactive hdue hactive).trans ?_)
    simp [removeReason_eq, HoldUnit.setReason, HoldUnit.noReason, Bool.and_assoc]

end Sys2Proof.Machine
end

section
/-! SUPPORT. What ARM_REMOTE judges, and the place, the tag and the item of the record that it makes (R42, R165, R166). -/

namespace Sys2Proof.Machine

variable {s : State}

/-! ### The free place and the free tag (R164, R165) -/

/-- The lowest empty place is the first one found from place 0 on. -/
theorem freeRecord_eq (s : State) : freeRecord s = (List.range 16).find? fun i => (recordOf s i).isNone := by
  rw [← List.head?_filter]
  refine congrArg List.head? (List.filter_congr fun i hi => ?_)
  have hi : i < 16 := List.mem_range.1 hi
  simp [recordOf, hi]

theorem freeRecord_lowest {i : Nat} (hi : i < 16) (hnone : recordOf s i = none)
    (hlow : ∀ j, j < i → (recordOf s j).isSome = true) : freeRecord s = some i := by
  rw [freeRecord_eq, List.find?_range_eq_some]
  exact ⟨Option.isNone_iff_eq_none.2 hnone, List.mem_range.2 hi, fun j hj => by simpa using hlow j hj⟩

theorem freeRecord_full (hfull : ∀ i, i < 16 → (recordOf s i).isSome = true) : freeRecord s = none := by
  rw [freeRecord_eq, List.find?_range_eq_none]
  exact fun i hi => by simpa using hfull i hi

theorem exists_freeRecord {i : Nat} (hi : i < 16) (hnone : recordOf s i = none) : ∃ place, freeRecord s = some place := by
  refine Option.ne_none_iff_exists'.1 fun hfull => ?_
  rw [freeRecord_eq, List.find?_range_eq_none] at hfull
  simpa [hnone] using hfull i hi

/-- Counting up from the counter, the first tag that is not in use is the one found. -/
theorem firstTag_eq {counter : Octet} {used : Octet → Bool} {k : Nat} (hk : k < 256)
    (hfree : used (counter + BitVec.ofNat 8 k) = false)
    (hused : ∀ m, m < k → used (counter + BitVec.ofNat 8 m) = true) :
    firstTag counter used = counter + BitVec.ofNat 8 k := by
  have hfind : (List.range 256).find? ((fun t => !used t) ∘ fun k => counter + BitVec.ofNat 8 k) = some k :=
    List.find?_range_eq_some.2 ⟨by simp [hfree], List.mem_range.2 hk, fun m hm => by simp [hused m hm]⟩
  rw [firstTag, List.find?_map, hfind]
  rfl

theorem outTag_used_iff (s : State) (t : Octet) :
    (!(recordsWhere (fun r => r.tag == t) s).isEmpty) = true ↔ ∃ i r, recordOf s i = some r ∧ r.tag = t := by
  rw [Bool.not_eq_true', List.isEmpty_eq_false_iff_exists_mem]
  simp [mem_recordsWhere]

/-- The first tag that no record has (R165). -/
theorem firstTag_outbound {k : Nat} (hk : k < 256)
    (hfree : ∀ j r, recordOf s j = some r → r.tag ≠ s.request.tagCounter + BitVec.ofNat 8 k)
    (hused : ∀ m, m < k → ∃ j r, recordOf s j = some r ∧ r.tag = s.request.tagCounter + BitVec.ofNat 8 m) :
    firstTag s.request.tagCounter (fun t => !(recordsWhere (fun r => r.tag == t) s).isEmpty) =
      s.request.tagCounter + BitVec.ofNat 8 k := by
  refine firstTag_eq hk (Bool.eq_false_iff.2 fun h => ?_) fun m hm => (outTag_used_iff s _).2 (hused m hm)
  obtain ⟨j, r, hr, htag⟩ := (outTag_used_iff s _).1 h
  exact hfree j r hr htag

/-! ### The check of the operands (R166) -/

theorem intervalValid_atTime {f : ArmFields} {t : NT} {i : Word32} (ht : f.trigger = .atTime t i) :
    f.intervalValid = true ↔
      (f.repeats ≠ 0 → 4000 ≤ i.toNat ∧ (f.effect = 2 → f.width.toNat < i.toNat)) := by
  simp [ArmFields.intervalValid, ht, or_iff_not_imp_left]

theorem expiryCoversTime_atTime {f : ArmFields} {t : NT} {i : Word32} (ht : f.trigger = .atTime t i) :
    f.expiryCoversTime = true ↔ ∀ x, f.expiry = some x → ntAfter t x = false := by
  simp [ArmFields.expiryCoversTime, ht, Option.all_eq_true]

/-- The part of the check that does not look at the trigger. -/
def remoteTargetValid (target channel : Nat) (f : ArmFields) (s : State) : Prop :=
  target < s.profile.stations ∧ target ≠ s.profile.station ∧ channel < 8 ∧ (f.effect = 2 → 25 ≤ f.width.toNat)

theorem remoteArmValid_atTime {target c : Nat} {f : ArmFields} {t : NT} {i : Word32} (ht : f.trigger = .atTime t i) :
    remoteArmValid target c f s = true ↔
      remoteTargetValid target c f s ∧ f.intervalValid = true ∧ f.expiryCoversTime = true := by
  simp [remoteArmValid, remoteTargetValid, ht, and_assoc, or_iff_not_imp_left]

theorem remoteArmValid_onMark {target c : Nat} {f : ArmFields} {st ch e : Octet} {d : Word32} {m : Option Word16}
    (ht : f.trigger = .onMark st ch e d m) :
    remoteArmValid target c f s = true ↔ remoteTargetValid target c f s ∧ st.toNat < s.profile.stations := by
  simp [remoteArmValid, remoteTargetValid, ArmFields.intervalValid, ArmFields.expiryCoversTime, ht, and_assoc,
    or_iff_not_imp_left]

/-! ### ARM_REMOTE (R165, R166) -/

/-- ARM_REMOTE with its operands, while its command octet is being clocked in. -/
theorem exec_armRemote {target ch : Octet} {os : List Octet} {t : State} {a : Answer} (ho : s.portOpen)
    (hos : os.length = 28) (htake : takeArmRemote target.toNat ch.toNat (armFieldsOf os) s = (t, a)) :
    exec (.armRemote target ch os) s = .next (t.answering 31 8 a.code a.data) := by
  have hops : (target :: ch :: os).length = 30 := by simp [hos]
  have hrow := portCommand_answers .armRemote (target :: ch :: os) ho hops rfl htake
  rw [hops] at hrow
  exact congrArg Host.Outcome.next hrow

section Judged

variable {target c : Nat} {f : ArmFields}

theorem takeArmRemote_untrusted (h : ¬ trusted s.timebase.sync = true) :
    takeArmRemote target c f s = (s, Answer.only Code.refusedState) := if_pos (by simpa using h)

variable (hsync : trusted s.timebase.sync = true)
include hsync

theorem takeArmRemote_invalid (h : ¬ remoteArmValid target c f s = true) :
    takeArmRemote target c f s = (s, Answer.only Code.invalid) := by
  simp [takeArmRemote, hsync, h]

theorem takeArmRemote_tableFull (hvalid : remoteArmValid target c f s = true) (hfull : freeRecord s = none) :
    takeArmRemote target c f s = (s, { code := Code.refusedFull, data := [0x00] }) := by
  simp [takeArmRemote, hsync, hvalid, hfull]

theorem takeArmRemote_queueFull {place : Nat} (hvalid : remoteArmValid target c f s = true)
    (hplace : freeRecord s = some place) (hqueue : 28 ≤ s.roundCtl.queue.length) :
    takeArmRemote target c f s = (s, { code := Code.refusedFull, data := [0x01] }) := by
  have hrefused (tag : Octet) : offerRequest (.arm target c tag f) s = none :=
    if_neg fun htakes => Nat.not_lt.2 hqueue ((queueTakes_open (by rfl)).1 htakes)
  simp [takeArmRemote, hsync, hvalid, hplace, hrefused]

end Judged

/-- A record at a place, its ARM item at the tail of the send queue, and the tag counter after its tag (R165). -/
def armRequested (place : Nat) (r : OutRecord) (f : ArmFields) (s : State) : State :=
  let u := setRecord place (some r) (setQueue (s.roundCtl.queue ++ [.arm r.target r.channel r.tag f]) s)
  { u with request := { u.request with tagCounter := r.tag + 1 } }

theorem recordOf_armRequested {place : Nat} (hplace : place < 16) (r : OutRecord) (f : ArmFields) (s : State) (j : Nat) :
    recordOf (armRequested place r f s) j = if j = place then some r else recordOf s j := by
  refine (recordOf_congr rfl j).trans ((recordOf_setRecord _ place j (some r)).trans ?_)
  simp only [hplace, and_true]
  rfl

/-- ARM_REMOTE that passes every check (R165). -/
theorem takeArmRemote_queued {target c place : Nat} {f : ArmFields} {tag : Octet}
    (hsync : trusted s.timebase.sync = true) (hvalid : remoteArmValid target c f s = true)
    (hplace : freeRecord s = some place) (hqueue : s.roundCtl.queue.length < 28)
    (htag : firstTag s.request.tagCounter (fun t => !(recordsWhere (fun r => r.tag == t) s).isEmpty) = tag) :
    takeArmRemote target c f s =
      (armRequested place
          { tag := tag, target := target, channel := c, state := .queued, cancelRequested := false, roundSent := none } f s,
        Answer.done [tag, octetOf place]) := by
  have hoffer : offerRequest (.arm target c tag f) s = some (setQueue (s.roundCtl.queue ++ [.arm target c tag f]) s) :=
    offerRequest_eq_some.2 ⟨(queueTakes_open (by rfl)).2 hqueue, rfl⟩
  simp only [takeArmRemote, hsync, hvalid, hplace, htag, hoffer, armRequested, Bool.not_true, Bool.false_eq_true, if_false]

end Sys2Proof.Machine
end

section
/-! SETTLED. ARM_REMOTE (O40). -/

namespace Sys2Proof.Machine

/-- Settles O40: one case for each check in its order, and the record made when all of them pass. -/
theorem armRemoteQueued : Obligations.ArmRemoteQueued := by
  intro s target ch os ho hos f run valid
  have hrun {t : State} {a : Answer} (htake : takeArmRemote target.toNat ch.toNat f s = (t, a)) :
      run (.next (t.answering 31 8 a.code a.data)) := exec_armRemote ho hos htake
  have hvalid : valid ↔ remoteArmValid target.toNat ch.toNat f s = true := by
    cases ht : f.trigger with
    | atTime t i =>
      simp only [remoteArmValid_atTime ht, intervalValid_atTime ht, expiryCoversTime_atTime ht, valid, ht,
        remoteTargetValid, and_assoc]
    | onMark st c e d m => simp only [remoteArmValid_onMark ht, valid, ht, remoteTargetValid, and_assoc]
  refine ⟨fun hsynced hholdover => hrun (takeArmRemote_untrusted ?untrusted), fun hsync => ?judged⟩
  case untrusted => simp [trusted_eq, hsynced, hholdover]
  have hsync : trusted s.timebase.sync = true := (trusted_eq _).2 hsync
  refine ⟨fun hv => hrun (takeArmRemote_invalid hsync (mt hvalid.2 hv)),
    fun hv hfull => hrun (takeArmRemote_tableFull hsync (hvalid.1 hv) (freeRecord_full hfull)),
    fun i hv hi hnone hqueue => ?queueFull, fun i k hv hi hnone hlow hqueue hk => ?queued⟩
  case queueFull =>
    obtain ⟨place, hplace⟩ := exists_freeRecord hi hnone
    exact hrun (takeArmRemote_queueFull hsync (hvalid.1 hv) hplace hqueue)
  case queued =>
    intro tag hfree hused
    have htake := takeArmRemote_queued hsync (hvalid.1 hv) (freeRecord_lowest hi hnone hlow) hqueue
      (firstTag_outbound hk hfree hused)
    refine ⟨_, hrun htake, rfl, ?_, fun j hj => ?_, rfl, rfl⟩
    · rw [recordOf_armRequested hi, if_pos rfl]
    · rw [recordOf_armRequested hi, if_neg hj]

end Sys2Proof.Machine
end

section
/-! SUPPORT. What a REPORT item comes to by its kind and the record that it names (R168 to R170). -/

namespace Sys2Proof.Machine

variable {s : State} {station : Nat} {r : ReportItem}

theorem ReportItem.known_iff (r : ReportItem) : r.known = true ↔
    r.kind = ReportKind.ack ∨ (r.kind = ReportKind.refused ∧ r.code ∈ Code.ofRefused) ∨
      (r.kind = ReportKind.outcome ∧ r.code ∈ Code.ofOutcome) := by
  have hra : ReportKind.refused ≠ ReportKind.ack := by decide
  have hoa : ReportKind.outcome ≠ ReportKind.ack := by decide
  have hor : ReportKind.outcome ≠ ReportKind.refused := by decide
  unfold ReportItem.known
  split
  · next hack => simp [hack]
  · split
    · next hrefused => simp [hrefused, hra, hor.symm]
    · split
      · next houtcome => simp [houtcome, hoa, hor]
      · next hack hrefused houtcome => simp [hack, hrefused, houtcome]

/-! ### The record that is found (R168) -/

theorem takeReportItem_unknown (h : ¬ r.known = true) : takeReportItem station r s = s := if_pos (by simpa using h)

theorem takeReportItem_noRecord (hknown : r.known = true)
    (hnone : ∀ i q, recordOf s i = some q → ¬ (q.target = station ∧ q.tag = r.tag)) :
    takeReportItem station r s = writeUnsolicited station r s := by
  have hnil : recordsWhere (fun q => q.target == station && q.tag == r.tag) s = [] :=
    recordsWhere_eq_nil fun i q hq => by simpa using hnone i q hq
  simp [takeReportItem, hknown, hnil]

theorem takeReportItem_record {i : Nat} {q : OutRecord} (hknown : r.known = true) (hq : recordOf s i = some q)
    (htarget : q.target = station) (htag : q.tag = r.tag)
    (hlow : ∀ j x, j < i → recordOf s j = some x → ¬ (x.target = station ∧ x.tag = r.tag)) :
    takeReportItem station r s = answerRecord i q station r s := by
  have hhead : (recordsWhere (fun q => q.target == station && q.tag == r.tag) s).head? = some i :=
    head?_recordsWhere hq (by simp [htarget, htag]) fun j x hj hx => by simpa using hlow j x hj hx
  simp [takeReportItem, hknown, hhead, hq]

/-! ### What the record makes of the report (R168) -/

section Answered

variable {q : OutRecord} (i : Nat)

theorem answerRecord_queued (h : q.state = .queued) :
    answerRecord i q station r s = writeUnsolicited station r s := by
  simp only [answerRecord, h]

theorem answerRecord_accepted_ack (h : q.state = .accepted) (hack : r.kind = ReportKind.ack) :
    answerRecord i q station r s = writeUnsolicited station r s := by
  simp only [answerRecord, h, if_pos hack]

theorem answerRecord_awaiting_ack (h : q.state = .awaiting) (hack : r.kind = ReportKind.ack) :
    answerRecord i q station r s = setRecord i (some { q with state := .accepted }) s := by
  simp only [answerRecord, h, if_pos hack]

theorem answerRecord_completes (h : q.state ≠ .queued) (hkind : r.kind ≠ ReportKind.ack) :
    answerRecord i q station r s = completeRecord i r.code r.carried s := by
  cases hstate : q.state with
  | queued => exact absurd hstate h
  | awaiting => simp only [answerRecord, hstate, if_neg hkind]
  | accepted => simp only [answerRecord, hstate, if_neg hkind]

end Answered

/-! ### What the reports carry (R169, R170) -/

theorem completeRecord_some {i : Nat} {q : OutRecord} (hq : recordOf s i = some q) (code : Octet) (c : Carried) :
    completeRecord i code c s =
      journalReport
        { origin := .outbound, station := q.target, channel := some q.channel, tag := q.tag, index := none, code := code,
          fireCount := c.fireCount, lastFire := c.lastFire, detail := c.detail } (setRecord i none s) := by
  simp only [completeRecord, hq]

theorem ReportItem.carried_eq (r : ReportItem) : r.carried =
    { fireCount := if r.kind = ReportKind.outcome then some r.fireCount.toNat else none
      lastFire := if r.kind = ReportKind.outcome then r.lastFire else none
      detail := r.carriedDetail } := by
  unfold ReportItem.carried
  split <;> rfl

/-- The report of an item that answers no open record (R170). -/
def unsolicitedReport (station : Nat) (r : ReportItem) : ReportRecord :=
  let carries := r.kind = ReportKind.outcome ∨ (r.kind = ReportKind.refused ∧ r.code = Code.refusedPermission)
  { origin := .unsolicited, station := station, channel := none, tag := r.tag, index := none
    code := if r.kind = ReportKind.ack then Code.ack else r.code
    fireCount := if r.kind = ReportKind.outcome then some r.fireCount.toNat else none
    lastFire := if carries then r.lastFire else none
    detail := if carries then r.carriedDetail else none }

theorem writeUnsolicited_eq (station : Nat) (r : ReportItem) (s : State) :
    writeUnsolicited station r s = journalReport (unsolicitedReport station r)
      { s with request := { s.request with unsolicited := satAdd16 s.request.unsolicited 1 } } := rfl

/-- The report of an ACK carries neither a last fire time nor a detail (R170). -/
theorem unsolicitedReport_ack (h : r.kind = ReportKind.ack) :
    (unsolicitedReport station r).lastFire = none ∧ (unsolicitedReport station r).detail = none := by
  have hcarries :
      ¬ (r.kind = ReportKind.outcome ∨ (r.kind = ReportKind.refused ∧ r.code = Code.refusedPermission)) := by
    rw [h]; exact fun hc => hc.elim (by decide) fun hc => absurd hc.1 (by decide)
  exact ⟨if_neg hcarries, if_neg hcarries⟩

end Sys2Proof.Machine
end

section
/-! SETTLED. A REPORT item for the own station (O42). -/

namespace Sys2Proof.Machine

/-- Settles O42: an item that is not known, one that answers no open record, and one that its record's state takes. -/
theorem reportAnswersRecord : Obligations.ReportAnswersRecord := by
  intro s station r known carries detail unsolicited t
  have hknown : known ↔ r.known = true := by
    simp only [ReportItem.known_iff, Code.ofRefused, Code.ofOutcome, List.mem_cons, List.not_mem_nil, or_false]
    exact Iff.rfl
  have hunsolicited (h : t = writeUnsolicited station r s) : unsolicited t :=
    ⟨unsolicitedReport station r, h.trans (writeUnsolicited_eq station r s), rfl, rfl, rfl, rfl, rfl,
      fun hack => if_pos hack, fun hother => if_neg hother, fun houtcome => if_pos houtcome,
      fun hcarries => if_pos hcarries, fun hcarries => if_pos hcarries, unsolicitedReport_ack⟩
  refine ⟨fun hno => takeReportItem_unknown (mt hknown.2 hno),
    fun hk hnone => hunsolicited (takeReportItem_noRecord (hknown.1 hk) hnone), ?found⟩
  intro i q hk hq htarget htag hlow
  have hanswer : t = answerRecord i q station r s := takeReportItem_record (hknown.1 hk) hq htarget htag hlow
  refine ⟨fun hstate => hunsolicited (hanswer.trans (answerRecord_queued i hstate)),
    fun hstate hack => hunsolicited (hanswer.trans (answerRecord_accepted_ack i hstate hack)),
    fun hstate hack => hanswer.trans (answerRecord_awaiting_ack i hstate hack), fun hstate hkind => ?completes⟩
  rw [hanswer, answerRecord_completes i hstate hkind, completeRecord_some hq, ReportItem.carried_eq]
  rfl

end Sys2Proof.Machine
end

section
/-! SUPPORT. What the stages of a step leave of the port and of the queue of commands (R4, R15). -/

namespace Sys2Proof.Machine

/-! ### The stages -/

theorem drainCyclicEnds_frame (n : Nat) (s : State) :
    (drainCyclicEnds n s).port = s.port ∧ (drainCyclicEnds n s).pending = s.pending := by
  induction n generalizing s with
  | zero => exact ⟨rfl, rfl⟩
  | succ n ih =>
    unfold drainCyclicEnds
    split
    · exact ⟨rfl, rfl⟩
    · next place _ => simpa using ih (takeCyclicEnd place s)

theorem drainFires_frame (n : Nat) (s : State) :
    (drainFires n s).port = s.port ∧ (drainFires n s).pending = s.pending := by
  induction n generalizing s with
  | zero => exact ⟨rfl, rfl⟩
  | succ n ih =>
    unfold drainFires
    split
    · exact ⟨rfl, rfl⟩
    · simpa using ih (takeFire s)

/-- Of the port, the events of the lines and of the own frame leave what ANSWER_READY makes of it (R181). -/
theorem drainLines_frame (s : State) :
    (drainLines s).port = (takeAnswerReady true s).port ∧ (drainLines s).pending = s.pending := by
  have hport := foldl_keeps State.port (f := fun s c => takeEdge c false s) (fun s c => by simp) (List.range 8)
    (takeAnswerReady true s)
  have hpending := foldl_keeps State.pending (f := fun s c => takeEdge c false s) (fun s c => by simp) (List.range 8)
    (takeAnswerReady true s)
  simp [drainLines, hport, hpending]

theorem drainPulseEnds_frame (s : State) :
    (drainPulseEnds s).port = s.port ∧ (drainPulseEnds s).pending = s.pending := by
  have hport := foldl_keeps State.port (f := fun s i => takePulseEnd i s) (fun s i => by simp) (List.range 48) s
  have hpending := foldl_keeps State.pending (f := fun s i => takePulseEnd i s) (fun s i => by simp) (List.range 48) s
  simp only [drainPulseEnds, drainCyclicEnds_frame, hport, hpending, and_self]

theorem drainRoundEnds_frame (s : State) :
    (drainRoundEnds s).port = s.port ∧ (drainRoundEnds s).pending = s.pending := by
  simp [drainRoundEnds]

theorem drainActions_frame (s : State) :
    (drainActions s).port = s.port ∧ (drainActions s).pending = s.pending := by
  have hport := foldl_keeps State.port (f := fun s i => takeExpiry i s) (fun s i => by simp) (List.range 48) s
  have hpending := foldl_keeps State.pending (f := fun s i => takeExpiry i s) (fun s i => by simp) (List.range 48) s
  simp [drainActions, drainStarts, drainFires_frame, hport, hpending]

theorem drainCut_frame (s : State) : (drainCut s).port = s.port ∧ (drainCut s).pending = s.pending := by
  unfold drainCut
  split <;> simp

/-! ### The whole step -/

/-- What is due in a step is taken up to the capture of a READ_TIME's values, before which the port stands as ANSWER_READY
leaves it. -/
theorem drainDue_eq_captureTime (s : State) :
    ∃ u, drainDue s = captureTime u ∧ u.port = (takeAnswerReady true s).port ∧ u.pending = s.pending :=
  ⟨_, rfl, by simp [drainCut_frame, drainActions_frame, drainRoundEnds_frame, drainPulseEnds_frame, drainLines_frame],
    by simp [drainCut_frame, drainActions_frame, drainRoundEnds_frame, drainPulseEnds_frame, drainLines_frame]⟩

theorem drainDue_pending (s : State) : (drainDue s).pending = s.pending := by
  obtain ⟨u, hdue, -, hpending⟩ := drainDue_eq_captureTime s
  simp [hdue, hpending]

theorem newStep_pending (lines : Octet) (hold : Level) (s : State) : (newStep lines hold s).pending = s.pending := by
  rw [newStep_frame]

end Sys2Proof.Machine
end

section
/-! SETTLED. The queue of commands (O1, O2). -/

namespace Sys2Proof.Machine

/-! ### The port -/

theorem takeOperands_pending (cmd : Cmd) (ops : List Octet) (s : State) : (takeOperands cmd ops s).pending = s.pending := by
  unfold takeOperands
  split
  · simp [takeWhole]
  · rfl

theorem takeCommandOctet_pending (o : Octet) (s : State) : (takeCommandOctet o s).pending = s.pending := by
  unfold takeCommandOctet
  split
  · exact takeOperands_pending _ _ _
  · rfl

theorem takePortOctet_pending (o : Octet) (s : State) : (takePortOctet o s).pending = s.pending := by
  unfold takePortOctet
  split
  case h_3 => exact takeCommandOctet_pending _ _
  case h_4 => exact takeOperands_pending _ _ _
  all_goals rfl

theorem takeSelFall_pending (s : State) : (takeSelFall s).pending = s.pending := by
  unfold takeSelFall
  repeat' split
  all_goals rfl

theorem takeSelRise_pending (s : State) : (takeSelRise s).pending = s.pending := by
  unfold takeSelRise
  repeat' split
  all_goals rfl

theorem freshTransaction_pending (s : State) : (freshTransaction s).pending = s.pending :=
  (takeSelFall_pending _).trans (takeSelRise_pending s)

theorem openFor_pending (cmd : Cmd) (ops : List Octet) (s : State) : (openFor cmd ops s).pending = s.pending := by
  unfold openFor
  repeat' split
  all_goals simp only [freshTransaction_pending]

theorem portCommand_pending (cmd : Cmd) (ops : List Octet) (s : State) : (portCommand cmd ops s).pending = s.pending := by
  unfold portCommand
  split
  · rfl
  · rw [takeOperands_pending, openFor_pending]

theorem portUnknown_pending (o : Octet) (s : State) : (portUnknown o s).pending = s.pending := by
  unfold portUnknown
  repeat' split
  all_goals simp only [takeCommandOctet_pending, freshTransaction_pending]

/-! ### The clock -/

theorem takePeriod_pending (lines : Octet) (hold : Level) (s : State) : (takePeriod lines hold s).pending = s.pending := by
  unfold takePeriod
  split
  · rfl
  · rw [newStep_pending, drainDue_pending]

theorem takeAdjusted_pending (lines : Octet) (hold : Level) (s : State) :
    (takeAdjusted lines hold s).pending = s.pending := by
  unfold takeAdjusted
  repeat' split
  · rfl
  · rw [newStep_pending, drainDue_pending]
  · rfl

/-! ### The statements -/

/-- Settles O1: by the definition of a step, one equation for each form of the queue. -/
theorem stepRunsFrontCommand : Obligations.StepRunsFrontCommand :=
  ⟨fun _ _ _ => rfl, fun _ => rfl⟩

/-- Settles O2: each row is the next state that its operation gives, and no operation touches the queue. -/
theorem commandsAnswerNextAndKeepQueue : Obligations.CommandsAnswerNextAndKeepQueue := by
  intro c s
  cases c <;> refine ⟨_, rfl, ?_⟩
  case reset => rfl
  case adjustedStep => exact takeAdjusted_pending _ _ s
  case transactionStart => exact takeSelFall_pending s
  case transactionEnd => exact takeSelRise_pending s
  case unknownCommand => exact portUnknown_pending _ s
  case referencePeriod => exact takePeriod_pending _ _ s
  case portOctet => exact takePortOctet_pending _ s
  case listenTimerExpiry | roundEnd | ownSendInstant | collision | frameSentWhole | frameComplete | frameFailed |
      edgeAccepted | holdLineAccepted | fire | pulseEnd | expiry | cyclicFire | cyclicPulseEnd | answerReady |
      receptionStart | lineIdle => simp
  case resetAsserted => rfl
  all_goals exact portCommand_pending _ _ s

end Sys2Proof.Machine
end

section
/-! SUPPORT. What the blocks show after reset (R197). -/

namespace Sys2Proof.Machine

/-- A table with every place empty has nothing at any place. -/
theorem replicate_none_get {α : Type} (n i : Nat) : ((Vector.replicate n (none : Option α))[i]?).join = none := by
  by_cases hi : i < n <;> simp [hi]

theorem entryAt_reset (i : Nat) : entryAt State.reset i = none := replicate_none_get 48 i

theorem recordOf_reset (i : Nat) : recordOf State.reset i = none := replicate_none_get 16 i

theorem ringAt_reset (k : Nat) : ringAt State.reset k = none := replicate_none_get 8 k

/-- Before START every channel is UNUSED (R61). -/
theorem channelCfg_reset (c : Nat) : channelCfg State.reset c = .unused := by
  by_cases hc : c < 8 <;> simp [channelCfg, State.reset, Profile.none, hc]

theorem driveCfg_reset (c : Nat) : driveCfg State.reset c = none := by
  simp [driveCfg, channelCfg_reset]

theorem channel_of_reset {c : Channel} (h : c ∈ State.reset.channels.toList) : c = Channel.reset :=
  Vector.eq_of_mem_replicate (Vector.mem_toList_iff.1 h)

theorem channelAt_reset {i : Nat} {c : Channel} (h : State.reset.channels[i]? = some c) : c = Channel.reset :=
  Vector.eq_of_mem_replicate (Vector.mem_of_getElem? h)

theorem peer_of_reset {p : Peer} (h : p ∈ State.reset.roundCtl.peers.toList) : p = Peer.reset :=
  Vector.eq_of_mem_replicate (Vector.mem_toList_iff.1 h)

theorem filledPlaces_emptyBank : filledPlaces emptyBank = 0 :=
  filledPlaces_eq_zero.2 fun j c hc => by
    have hnone := replicate_none_get (α := CyclicEntry) 32 j
    have hplace : (Vector.replicate 32 none)[j]? = some (some c) := hc
    rw [hplace] at hnone
    cases hnone

/-- With no cause pending NOTICE_N is released (R193). -/
theorem noticeLow_reset {s : State} (h : s.notice = NoticeUnit.reset) : s.noticeLow = false := by
  rw [State.noticeLow, h]
  decide

theorem devList_reset : Timebase.reset.devList = [] := by
  simp [Timebase.devList, Timebase.reset]

end Sys2Proof.Machine
end

section
/-! SETTLED. RESET and RESET_ASSERTED (O3), and the invariants after reset (O56). -/

namespace Sys2Proof.Machine

/-- A row of a command is ignored while the station is held in reset (R197). -/
theorem exec_command_inReset {s : State} {c : Instr} {os : List Octet} (hr : s.inReset = true) (hw : c.wire = some os) :
    exec c s = .next s := by
  have hcommand (cmd : Cmd) (ops : List Octet) : portCommand cmd ops s = s := if_pos hr
  have hunknown (o : Octet) : portUnknown o s = s := if_pos hr
  cases c <;> simp only [Instr.wire, reduceCtorEq] at hw
  case unknownCommand => exact congrArg Host.Outcome.next (hunknown _)
  all_goals exact congrArg Host.Outcome.next (hcommand _ _)

/-- While the station is held in reset the edges of SEL_N leave the port alone (R197). -/
theorem takeSelFall_inReset {s : State} (hr : s.inReset = true) : (takeSelFall s).port = s.port := by
  simp only [takeSelFall, hr, if_true]
  split <;> rfl

theorem takeSelRise_inReset {s : State} (hr : s.inReset = true) : (takeSelRise s).port = s.port := by
  simp only [takeSelRise, hr, if_true]
  split <;> rfl

/-- Settles O3: after RESET each block is the block of the reset state; RESET_ASSERTED adds the hold in reset, under which
the port and the clock leave the blocks alone. -/
theorem resetLeavesResetValues : Obligations.ResetLeavesResetValues := by
  refine ⟨fun s => ⟨takeReset s, rfl, rfl, rfl, ?timebase, ?roundCtl, channelCfg_reset, ?channels, ringAt_reset, rfl,
    entryAt_reset, rfl, rfl, rfl, ?cycle, ⟨rfl, rfl, rfl, rfl, rfl, rfl, rfl⟩, recordOf_reset, rfl, rfl,
    ⟨rfl, rfl, rfl, rfl, rfl, rfl, rfl⟩, ⟨rfl, rfl, rfl, rfl, noticeLow_reset rfl⟩⟩,
    fun s => ⟨takeResetAsserted s, rfl, rfl, rfl, ?undriven, rfl, noticeLow_reset rfl, rfl, fun o => rfl,
      fun c os hw => exec_command_inReset rfl hw, ?fall, ?rise, fun l h => rfl⟩⟩
  case timebase => exact ⟨rfl, rfl, rfl, rfl, devList_reset, rfl, rfl, rfl, rfl, rfl, rfl, rfl, rfl, rfl, rfl, rfl, rfl, rfl⟩
  case roundCtl => exact ⟨rfl, rfl, rfl, rfl, rfl, fun p hp => peer_of_reset hp, rfl, rfl, rfl, rfl⟩
  case channels =>
    intro c hc
    rw [channel_of_reset hc]
    exact ⟨rfl, rfl, rfl, rfl, rfl, rfl, rfl, rfl, rfl, rfl⟩
  case cycle =>
    exact ⟨filledPlaces_emptyBank, filledPlaces_emptyBank, rfl, rfl, rfl, rfl, rfl, rfl, rfl, rfl⟩
  case undriven =>
    intro c hc
    rw [channel_of_reset hc]
    rfl
  case fall =>
    intro u hu
    rw [← Host.Outcome.next.inj hu]
    exact takeSelFall_inReset rfl
  case rise =>
    intro u hu
    rw [← Host.Outcome.next.inj hu]
    exact takeSelRise_inReset rfl

/-- Settles O56: the tables are empty, no profile is loaded, and the hold unit is HELD for the reason SYNC in OFF. -/
theorem resetMeetsInvariants : Obligations.ResetMeetsInvariants := by
  obtain ⟨hqueue, howners, htags⟩ := tidy_reset
  obtain ⟨hmem, hprofile, hrings, hnotices⟩ := inForm_reset
  have hconsistent : State.reset.hold.consistent := by
    unfold HoldUnit.consistent
    decide
  have hagrees : State.reset.heldAgrees :=
    ⟨rfl, rfl, fun c ch hch => by
      rw [channelAt_reset hch]
      exact ⟨fun _ => rfl, fun _ => rfl⟩⟩
  have hforced : State.reset.forcedSafe := fun c cfg ch hcfg => by
    rw [driveCfg_reset] at hcfg
    cases hcfg
  have hquiet : State.reset.heldQuiet := by
    refine ⟨fun _ i e he => ?_, fun _ => rfl⟩
    rw [entryAt_reset] at he
    cases he
  have hrecords : State.reset.recordsTrusted := fun i r hr => by
    rw [recordOf_reset] at hr
    cases hr
  have hswap : State.reset.swapAhead := fun p hp => by cases hp
  have htimer : State.reset.timerInListen := by
    unfold State.timerInListen
    decide
  have hcounts : State.reset.countsInRange := by
    unfold State.countsInRange
    decide
  exact ⟨hmem, hqueue, hprofile, hrings, hnotices, hconsistent, fun _ => ⟨rfl, rfl⟩, hagrees, hforced, hquiet, howners,
    htags, hrecords, hswap, htimer, hcounts⟩

end Sys2Proof.Machine
end

section
/-! SUPPORT. The edges of SEL_N and the octets of the port, case by case (R181 to R184, R198). -/

namespace Sys2Proof.Machine

variable {s : State}

/-! ### The edges of SEL_N (R182, R183, R198) -/

theorem takeSelFall_begins (hr : s.inReset = false) (hsel : s.pins.selLow = false) :
    takeSelFall s = portUpdate Port.begin { s with pins := { s.pins with selLow := true } } := by
  simp [takeSelFall, hr, hsel]

theorem takeSelRise_resets (hr : s.inReset = false) (hsel : s.pins.selLow = true) (hdue : s.port.resetDue = true) :
    takeSelRise s = takeReset { s with pins := { s.pins with selLow := false } } := by
  simp [takeSelRise, hr, hsel, hdue]

theorem takeSelRise_ends (hr : s.inReset = false) (hsel : s.pins.selLow = true) (hdue : s.port.resetDue = false) :
    takeSelRise s = portUpdate Port.ended { s with pins := { s.pins with selLow := false } } := by
  simp [takeSelRise, hr, hsel, hdue]

/-! ### Octets (R181, R184) -/

theorem takePortOctet_command (o : Octet) (h : s.port.transaction = .command) :
    takePortOctet o s = takeCommandOctet o s := by
  simp only [takePortOctet, h]

theorem takePortOctet_operands (o : Octet) {cmd : Cmd} {got : List Octet} (h : s.port.transaction = .operands cmd got) :
    takePortOctet o s = takeOperands cmd (got ++ [o]) s := by
  simp only [takePortOctet, h]

theorem takePortOctet_answer (o : Octet) {readyAt : Nat} {ready : Bool} {left : List Octet}
    (h : s.port.transaction = .answer readyAt ready left) :
    takePortOctet o s = portUpdate (Port.nextAnswer readyAt ready left) s := by
  simp only [takePortOctet, h]

theorem takePortOctet_trailing (o : Octet) (h : s.port.transaction = .trailing) :
    takePortOctet o s = portUpdate (fun p => { p with octetCount := p.octetCount + 1, sdo := some 0 }) s := by
  simp only [takePortOctet, h]

/-- With no transaction SCK is ignored (R180, R197). -/
theorem takePortOctet_none (o : Octet) (h : s.port.transaction = .idle ∨ s.port.transaction = .awaitHigh) :
    takePortOctet o s = s := by
  rcases h with h | h <;> simp only [takePortOctet, h]

/-- Operands that are not complete stay in the port (R181). -/
theorem takeOperands_short {cmd : Cmd} {ops : List Octet} (h : ops.length < cmd.operandCount) :
    takeOperands cmd ops s =
      portUpdate (fun p =>
        { p with transaction := .operands cmd ops, octetCount := 1 + ops.length, sdo := some 0xFF }) s :=
  if_neg (Nat.not_le.2 h)

/-- Operands that are complete are handed to the command's owner (R181). -/
theorem takeOperands_whole {cmd : Cmd} {ops : List Octet} (h : ops.length = cmd.operandCount) :
    takeOperands cmd ops s = takeWhole cmd ops s := by
  have htake : ops.take cmd.operandCount = ops := by rw [← h, List.take_length]
  rw [takeOperands, if_pos h.ge, htake]

theorem takeCommandOctet_named {o : Octet} {cmd : Cmd} (h : Cmd.ofOctet o = some cmd) :
    takeCommandOctet o s = takeOperands cmd [] s := by
  simp only [takeCommandOctet, h]

theorem takeCommandOctet_unknown {o : Octet} (h : Cmd.ofOctet o = none) :
    takeCommandOctet o s = s.answering 1 8 0x24 [] := by
  simp only [takeCommandOctet, h]
  rfl

/-- An octet that is no command octet of R186 names no command. -/
theorem ofOctet_unknown {o : Octet} (h : (Instr.unknownCommand o).wellFormed = true) : Cmd.ofOctet o = none := by
  have hnamed : ∀ o : Octet, (Instr.unknownCommand o).wellFormed = true → Cmd.ofOctet o = none := by decide +kernel
  exact hnamed o h

theorem exec_unknownCommand {o : Octet} (ho : s.portOpen) : exec (.unknownCommand o) s = .next (takeCommandOctet o s) := by
  obtain ⟨hreset, hcommand⟩ := ho
  refine congrArg Host.Outcome.next ?_
  simp only [portUnknown, hreset, hcommand, Bool.false_eq_true, if_false]

/-! ### The bits of an octet (R180) -/

theorem portBits_get (o : Octet) {k : Nat} (hk : k < 8) : (portBits o)[k]? = some (o.getLsbD (7 - k)) := by
  simp [portBits, hk]

/-- An octet is read back from its bits, most significant first. -/
theorem octetOfSamples_portBits (o : Octet) : octetOfSamples (portBits o) = o := by
  have hread : ∀ o : Octet, octetOfSamples (portBits o) = o := by decide +kernel
  exact hread o

/-- Samples that do not complete an octet are kept. -/
theorem takeRises_kept {got samples : List Bool} (h : got.length + samples.length < 8) (rest : List Bool) (s : State) :
    takeRises got (samples ++ rest) s = takeRises (got ++ samples) rest s := by
  induction samples generalizing got with
  | nil => simp
  | cons b samples ih =>
    rw [List.length_cons] at h
    rw [List.cons_append, takeRises, if_neg (by omega), ih (by simp; omega), List.append_assoc, List.singleton_append]

/-- The bits of an octet complete it. -/
theorem takeRises_portBits (o : Octet) (rest : List Bool) (s : State) :
    takeRises [] (portBits o ++ rest) s = takeRises [] rest (takePortOctet o s) := by
  obtain ⟨first, last, hbits, hfirst⟩ : ∃ first last, portBits o = first ++ [last] ∧ first.length = 7 :=
    ⟨(List.range 7).map fun k => o.getLsbD (7 - k), o.getLsbD 0, rfl, rfl⟩
  rw [hbits, List.append_assoc, takeRises_kept (by simp [hfirst]), List.nil_append, List.singleton_append, takeRises,
    if_pos hfirst, ← hbits, octetOfSamples_portBits]

/-- Octets clocked in bit by bit, most significant first, are the octets (R180). -/
theorem takeRises_octets (os : List Octet) (s : State) :
    takeRises [] (os.flatMap portBits) s = (os.foldl (fun s o => takePortOctet o s) s, []) := by
  induction os generalizing s with
  | nil => rfl
  | cons o os ih => rw [List.flatMap_cons, takeRises_portBits, ih, List.foldl_cons]

theorem clockOctets_eq (os : List Octet) (s : State) :
    clockOctets os s = .next (os.foldl (fun s o => takePortOctet o s) s) :=
  execAll_map (fun _ _ => rfl) os s

end Sys2Proof.Machine
end

section
/-! SETTLED. The edges of SEL_N (O5), the octets and their bits (O8), and the readiness of an answer (O9). -/

namespace Sys2Proof.Machine

/-- Settles O5: an edge of SEL_N begins or ends the transaction in the port, or takes the reset that SOFT_RESET has left
due. -/
theorem transactionsBeginAndEnd : Obligations.TransactionsBeginAndEnd := by
  refine ⟨fun s hr hsel => ?start, fun s ho => ?softReset, fun s hr hsel hdue => ?resets, fun s hr hsel hdue => ?ends⟩
  case start => exact congrArg Host.Outcome.next (takeSelFall_begins hr hsel)
  case softReset => exact congrArg Host.Outcome.next (portCommand_answers .softReset [] ho rfl rfl rfl)
  case resets => exact congrArg Host.Outcome.next (takeSelRise_resets hr hsel hdue)
  case ends =>
    refine ⟨s.port.ended.previousShort, congrArg Host.Outcome.next (takeSelRise_ends hr hsel hdue), fun h => ?_,
      fun cmd got h => ?_, fun at' ready left h => ?_, fun h => ?_, fun h => ?_⟩
    all_goals simp only [Port.ended, h]

/-- Settles O8: an octet by the state of the transaction, and eight samples for each octet. -/
theorem portOctetsMoveTransaction : Obligations.PortOctetsMoveTransaction := by
  refine ⟨fun s o _ => ⟨takePortOctet o s, rfl, fun cmd got ht hshort => ?operands, fun at' left ht => ?wait,
    fun at' x rest ht => ?data, fun at' ht => ?last, fun ht => takePortOctet_trailing o ht,
    fun ht => takePortOctet_none o ht⟩, fun o k hk => portBits_get o hk,
    fun os s => ⟨_, clockOctets_eq os s, takeRises_octets os s⟩, fun samples s hfew => ?few, fun s k hk => ?shown⟩
  case operands =>
    have hlength : (got ++ [o]).length = got.length + 1 := List.length_append
    rw [takePortOctet_operands o ht, takeOperands_short (by omega), hlength, Nat.add_comm 1]
    rfl
  case wait => exact takePortOctet_answer o ht
  case data => exact takePortOctet_answer o ht
  case last => exact takePortOctet_answer o ht
  case few =>
    have hkept := takeRises_kept (got := []) (by simpa using hfew) [] s
    simpa [takeRises] using hkept
  case shown =>
    refine ⟨fun hnone => by rw [State.sdoBit, hnone]; rfl, fun o ho => ?_⟩
    rw [State.sdoBit, ho, portBits_get o hk]
    rfl

/-- Settles O9: ANSWER_READY moves the answer on in the port, and an octet that names no command is answered at once. -/
theorem answersBecomeReady : Obligations.AnswersBecomeReady := by
  refine ⟨fun s at' code data ht hdue => ?ready, fun s o ho hunknown => ?unknown⟩
  case ready =>
    have htake (begun : Bool) : exec (.answerReady begun) s = .next (takeAnswerReady begun s) := rfl
    rw [htake, htake]
    simp only [takeAnswerReady, ht, if_pos hdue, portUpdate, and_self]
  case unknown =>
    rw [exec_unknownCommand ho, takeCommandOctet_unknown (ofOctet_unknown hunknown)]

end Sys2Proof.Machine
end

section
/-! SUPPORT. The octets of STATUS and of READ_TIME, and the capture of a READ_TIME as its step ends (R15, R36, R190). -/

namespace Sys2Proof.Machine

variable {s : State}

/-! ### Numbers with a sign (R199) -/

@[simp] theorem leSigned_length (k : Nat) (v : Int) : (leSigned k v).length = k := le_length k _

/-- A signed value of 32 bits is read back from its octets. -/
theorem word32At_leSigned (v : Int) (os : List Octet) : word32At (leSigned 4 v ++ os) 0 = BitVec.ofInt 32 v := by
  rw [word32At, leSigned, fieldAt_le, ofNat_mod_two_pow (by decide), BitVec.ofNat_toNat, BitVec.setWidth_eq]

/-! ### STATUS (R190) -/

/-- The reasons of the hold unit as flags of one octet (R199). -/
theorem octetOf_reasons (h : HoldUnit) :
    octetOf h.reasons = bitsOctet [h.reasonSync, h.reasonLine, h.reasonCommand] := by
  rw [bitsOctet, HoldUnit.reasons]
  simp only [List.foldr_cons, List.foldr_nil]
  congr 1
  omega

/-- The time remaining on the listen timer, in LISTEN only (R36). -/
theorem ofNat_listenRemaining (t : Timebase) : BitVec.ofNat 48 (listenRemaining t) =
    match t.sync, t.listenTimer with
    | .listen, some timer => timer - t.nt
    | _, _ => 0 := by
  unfold listenRemaining
  cases t.sync <;> cases t.listenTimer <;> simp only [BitVec.ofNat_toNat, BitVec.setWidth_eq, BitVec.ofNat_eq_ofNat]

theorem statusData_words (s : State) : let d := statusData s
    word16At d 3 = s.timebase.coldAttempts ∧ ntAt d 10 = BitVec.ofNat 48 (listenRemaining s.timebase) ∧
      word32At d 18 = BitVec.ofInt 32 s.timebase.corr ∧ word16At d 29 = s.notice.pending := by
  refine ⟨?_, ?_, word32At_leSigned _ _, ?_⟩
  all_goals simp [statusData, word16At, ntAt]

/-! ### READ_TIME (R15) -/

/-- What the 24 octets of READ_TIME show of a state (10.7.9). -/
theorem timeData_spelled (t : Timebase) : let d := timeData t
    d.length = 24 ∧ ntAt d 0 = t.nt ∧ word16At d 6 = t.round ∧ ntAt d 8 = t.rs ∧
      word32At d 14 = BitVec.ofInt 32 t.corr ∧ octetAt d 18 = octetOf t.corrCount ∧
      octetAt d 19 = flagOctet t.corrApplied ∧ word32At d 20 = BitVec.ofInt 32 t.slew := by
  refine ⟨by simp [timeData], ?_, ?_, ?_, word32At_leSigned _ _, rfl, rfl,
    word32At_leSigned _ []⟩
  all_goals simp [timeData, word16At, ntAt]

theorem exec_readTime (ho : s.portOpen) :
    exec .readTime s = .next (s.answering 1 8 0x01 (timeData s.timebase)).capturing :=
  congrArg Host.Outcome.next (portCommand_open .readTime [] ho rfl)

/-- An answer that is not ready yet is left alone by ANSWER_READY (R181). -/
theorem takeAnswerReady_early {at' : Nat} {left : List Octet} (begun : Bool)
    (ht : s.port.transaction = .answer at' false left) (hlate : s.timebase.stepNo < at') : takeAnswerReady begun s = s := by
  simp only [takeAnswerReady, ht, if_neg (Nat.not_le.2 hlate)]

/-- As the step ends, an answer that is not ready yet takes the values that the timebase has then (R15). -/
theorem drainDue_captures {at' : Nat} {old : List Octet} (hdue : s.port.timeDue = true)
    (ht : s.port.transaction = .answer at' false old) (hlate : s.timebase.stepNo < at') :
    (drainDue s).port =
      { s.port with
        timeDue := false, transaction := .answer at' false (Code.done :: timeData (drainDue s).timebase) } := by
  obtain ⟨u, hu, hport, -⟩ := drainDue_eq_captureTime s
  rw [takeAnswerReady_early true ht hlate] at hport
  have htime : (captureTime u).timebase = u.timebase := by simp
  rw [hu, htime, captureTime_answer (by rw [hport, hdue]) (by rw [hport, ht]), hport]

end Sys2Proof.Machine
end

section
/-! SETTLED. STATUS and READ_TIME (O14). -/

namespace Sys2Proof.Machine

/-- Settles O14: the octets of the two answers field by field; the events of a step leave the port to the capture of its
end. -/
theorem statusAndTimeReported : Obligations.StatusAndTimeReported := by
  refine ⟨fun s ho => ?status, fun s ho => ⟨_, exec_readTime ho, timeData_spelled _⟩,
    fun s at' old hdue ht hlate => ⟨_, drainDue_captures hdue ht hlate, timeData_spelled _⟩, fun s u order f h => ?kept⟩
  case status =>
    obtain ⟨hattempts, htimer, hcorr, hpending⟩ := statusData_words s
    have hflag (bits : List Bool) {j : Nat} (hj : j < 8) := getLsbD_bitsOctet bits hj
    have hreasons : octetAt (statusData s) 25 = _ := octetOf_reasons s.hold
    refine ⟨statusData s, congrArg Host.Outcome.next (portCommand_answers .status [] ho rfl rfl rfl), rfl,
      ⟨hflag _ (by decide), hflag _ (by decide)⟩, rfl, rfl, hattempts, rfl, rfl, rfl, rfl, rfl,
      htimer.trans (ofNat_listenRemaining _), rfl, rfl, hcorr, rfl, rfl, rfl, ?_, rfl, rfl, rfl, hpending, rfl⟩
    rw [hreasons]
    exact ⟨hflag _ (by decide), hflag _ (by decide), hflag _ (by decide)⟩
  case kept =>
    rcases h with h | h | h | h
    all_goals
      rw [← Host.Outcome.next.inj h]
      simp

end Sys2Proof.Machine
end

section
/-! SUPPORT. The checks of LOAD_PROFILE one by one: the offset that each reports, and that it is the least at which the check
fails (R188). -/

namespace Sys2Proof.Machine

variable {os : List Octet}

/-! ### The least offset at which a check fails -/

/-- What a check reports is the least offset at which it fails, or nothing where it fails nowhere. -/
def Reports (found : Option Nat) (fails : Nat → Prop) : Prop :=
  match found with
  | none => ∀ o, ¬ fails o
  | some o => fails o ∧ ∀ p, p < o → ¬ fails p

variable {found : Option Nat} {fails : Nat → Prop} {o : Nat}

theorem Reports.some_iff (h : Reports found fails) : found = some o ↔ fails o ∧ ∀ p, p < o → ¬ fails p := by
  cases found with
  | none => exact ⟨(nomatch ·), fun ⟨ho, _⟩ => absurd ho (h o)⟩
  | some q =>
    obtain ⟨hq, hbelow⟩ := h
    constructor
    · rintro ⟨⟩
      exact ⟨hq, hbelow⟩
    · rintro ⟨ho, hleast⟩
      rcases Nat.lt_trichotomy q o with hlt | rfl | hlt
      · exact absurd hq (hleast q hlt)
      · rfl
      · exact absurd ho (hbelow o hlt)

theorem Reports.none_iff (h : Reports found fails) : found = none ↔ ∀ o, ¬ fails o := by
  cases found with
  | none => exact ⟨fun _ => h, fun _ => rfl⟩
  | some q => exact ⟨(nomatch ·), fun hnever => absurd h.1 (hnever q)⟩

theorem Reports.congr {fails' : Nat → Prop} (h : Reports found fails) (hiff : ∀ o, fails o ↔ fails' o) :
    Reports found fails' := by
  rwa [← funext fun o => propext (hiff o)]

/-- A check of one field. -/
theorem reports_ite (c : Prop) [Decidable c] (q : Nat) : Reports (if c then some q else none) fun o => o = q ∧ c := by
  split
  · next hc => exact ⟨⟨rfl, hc⟩, fun p hp h => hp.ne h.1⟩
  · next hc => exact fun o h => hc h.2

/-- A check of fields, or of channels or rings, in ascending order of their offsets. -/
theorem reports_find {α : Type} {g : α → Nat} {l : List α} (hl : l.Pairwise fun x y => g x < g y) (p : α → Bool) :
    Reports ((l.find? p).map g) fun o => ∃ x ∈ l, p x = true ∧ g x = o := by
  induction l with
  | nil => rintro o ⟨x, hx, -⟩; cases hx
  | cons x l ih =>
    obtain ⟨hfirst, hrest⟩ := List.pairwise_cons.1 hl
    cases hp : p x with
    | true =>
      rw [List.find?_cons_of_pos hp]
      refine ⟨⟨x, List.mem_cons_self, hp, rfl⟩, ?_⟩
      rintro q hq ⟨y, hy, -, rfl⟩
      rcases List.mem_cons.1 hy with rfl | hy
      · exact Nat.lt_irrefl _ hq
      · exact Nat.lt_asymm hq (hfirst y hy)
    | false =>
      rw [List.find?_cons_of_neg (by simp [hp])]
      refine (ih hrest).congr fun o => ?_
      simp [hp]

/-! ### The order of the checks -/

/-- The offset that a check of R188 reports, if it fails. -/
def checkOffset (os : List Octet) : Nat → Option Nat
  | 1 => ((rangeChecks os).find? fun x => !x.1).map Prod.snd
  | 2 => if fieldAt os 4 4 % byteAt os 3 ≠ 0 then some 4 else none
  | 3 => if byteAt os 3 ≤ byteAt os 2 then some 2 else none
  | 4 => if fieldAt os 4 4 / 20 < fieldAt os 12 2 then some 12 else none
  | 5 => if slotFits os = false then some 18 else none
  | 6 => (ringOutside os).map fun k => ringOffset k + 2
  | 7 => (ringOverlapping os).map fun k => ringOffset k + 2
  | 8 => (secondReports os).map fun k => ringOffset k + 1
  | 9 => (channelRingWrong os).map fun c => channelOffset c + 6
  | _ => none

/-- LOAD_PROFILE reports the first check that reports an offset. -/
theorem profileError_eq (os : List Octet) : profileError os =
    ((List.range 10).find? fun check => (checkOffset os check).isSome).bind fun check =>
      (checkOffset os check).map fun o => (octetOf check, o) := by
  have hrange : List.range 10 = [0, 1, 2, 3, 4, 5, 6, 7, 8, 9] := rfl
  unfold profileError
  rw [hrange]
  repeat' split
  all_goals simp_all [checkOffset, octetOf]

theorem checkOffset_beyond {check : Nat} (h : 10 ≤ check) : checkOffset os check = none := by
  obtain ⟨k, rfl⟩ := Nat.exists_eq_add_of_le' h
  rfl

theorem profileError_some_iff {code : Octet} : profileError os = some (code, o) ↔
    ∃ check, code = octetOf check ∧ checkOffset os check = some o ∧ ∀ c, c < check → checkOffset os c = none := by
  rw [profileError_eq, Option.bind_eq_some_iff]
  constructor
  · rintro ⟨check, hfind, hreport⟩
    obtain ⟨-, -, hbefore⟩ := List.find?_range_eq_some.1 hfind
    obtain ⟨q, hq, heq⟩ := Option.map_eq_some_iff.1 hreport
    obtain ⟨rfl, rfl⟩ := Prod.mk.inj heq
    exact ⟨check, rfl, hq, fun c hc => by simpa using hbefore c hc⟩
  · rintro ⟨check, rfl, hq, hbefore⟩
    have hlt : check < 10 := Nat.lt_of_not_le fun hge => by simp [checkOffset_beyond hge] at hq
    refine ⟨check, List.find?_range_eq_some.2 ⟨by simp [hq], List.mem_range.2 hlt, fun c hc => ?_⟩, by simp [hq]⟩
    simp [hbefore c hc]

theorem profileError_none_iff : profileError os = none ↔ ∀ c, checkOffset os c = none := by
  constructor
  · intro h c
    rw [profileError_eq] at h
    by_cases hc : 10 ≤ c
    · exact checkOffset_beyond hc
    · cases hfind : (List.range 10).find? fun check => (checkOffset os check).isSome with
      | none => simpa using List.find?_eq_none.1 hfind c (by simpa using hc)
      | some check =>
        have hsome := List.find?_some hfind
        rw [hfind, Option.bind_some, Option.map_eq_none_iff] at h
        rw [h] at hsome
        cases hsome
  · intro h
    simp [profileError_eq, h]

end Sys2Proof.Machine
end

section
/-! SUPPORT. The fields that check 1 of LOAD_PROFILE judges, and where the checks of the rings and channels fail (R188). -/

namespace Sys2Proof.Machine

variable {os : List Octet} {c k o : Nat}

/-! ### The places of the profile (10.7.6) -/

theorem channelOffset_add (c n : Nat) : channelOffset c + n = 56 + n + 8 * c := by
  unfold channelOffset
  omega

theorem ringOffset_add (k n : Nat) : ringOffset k + n = 120 + n + 12 * k := by
  unfold ringOffset
  omega

/-- Ring k is one of the eight and is defined (10.7.6). -/
def definesRing (os : List Octet) (k : Nat) : Prop := k < 8 ∧ byteAt os (120 + 12 * k) = 1

theorem mem_definedRings : k ∈ definedRings os ↔ definesRing os k := by
  simp [definedRings, ringDefined, ringOffset, definesRing]

theorem definedRings_pairwise (os : List Octet) : (definedRings os).Pairwise (· < ·) :=
  List.pairwise_lt_range.filter _

/-! ### Fields out of their ranges (check 1) -/

/-- A field before the channels is out of its range. -/
def stationFieldBad (os : List Octet) (o : Nat) : Prop :=
  (o = 3 ∧ ¬ (2 ≤ byteAt os 3 ∧ byteAt os 3 ≤ 16)) ∨
  (o = 4 ∧ ¬ (50000 ≤ fieldAt os 4 4 ∧ fieldAt os 4 4 ≤ 50000000 ∧ fieldAt os 4 4 % 1000 = 0)) ∨
  (o = 8 ∧ fieldAt os 8 2 < 1000) ∨ (o = 10 ∧ ¬ (50 ≤ fieldAt os 10 2 ∧ fieldAt os 10 2 ≤ 32767)) ∨
  (o = 12 ∧ fieldAt os 12 2 < 100) ∨ (o = 14 ∧ ¬ (1 ≤ byteAt os 14 ∧ byteAt os 14 ≤ 15)) ∨
  (o = 16 ∧ 2 < byteAt os 16) ∨
  (o = 18 ∧ ¬ (32 ≤ fieldAt os 18 2 ∧ fieldAt os 18 2 ≤ 512 ∧ fieldAt os 18 2 % 8 = 0)) ∨
  (o = 20 ∧ ¬ (2 ≤ byteAt os 20 ∧ byteAt os 20 ≤ 64)) ∨ (o = 21 ∧ ¬ (byteAt os 21 % 4 ≤ 2 ∧ byteAt os 21 < 16)) ∨
  (o = 22 ∧ 32768 ≤ fieldAt os 22 2)

/-- A field of channel c is out of its range. -/
def channelFieldBad (os : List Octet) (c o : Nat) : Prop :=
  (o = 56 + 8 * c ∧ 2 < byteAt os (56 + 8 * c)) ∨
  (byteAt os (56 + 8 * c) = 1 ∧
    ((o = 57 + 8 * c ∧ ¬ (1 ≤ byteAt os o ∧ byteAt os o ≤ 15)) ∨ (o = 58 + 8 * c ∧ 7 < byteAt os o) ∨
    (o = 59 + 8 * c ∧ 2 < byteAt os o) ∨
    (o = 60 + 8 * c ∧ byteAt os o ≠ 1 ∧ byteAt os o ≠ 2 ∧ byteAt os o ≠ 4 ∧ byteAt os o ≠ 8) ∨
    (o = 61 + 8 * c ∧ 1 < byteAt os o) ∨ (o = 62 + 8 * c ∧ 7 < byteAt os o ∧ byteAt os o ≠ 255))) ∨
  (byteAt os (56 + 8 * c) = 2 ∧ (o = 57 + 8 * c ∨ o = 58 + 8 * c) ∧ 1 < byteAt os o)

/-- A field of ring k is out of its range. -/
def ringFieldBad (os : List Octet) (k o : Nat) : Prop :=
  (o = 120 + 12 * k ∧ 1 < byteAt os o) ∨
  (definesRing os k ∧
    ((o = 121 + 12 * k ∧ 2 < byteAt os (121 + 12 * k)) ∨ (o = 122 + 12 * k ∧ 2047 < fieldAt os (122 + 12 * k) 2) ∨
    (o = 124 + 12 * k ∧ ¬ (4 ≤ fieldAt os (124 + 12 * k) 2 ∧ fieldAt os (124 + 12 * k) 2 ≤ 2048)) ∨
    (o = 126 + 12 * k ∧ fieldAt os (124 + 12 * k) 2 ≤ fieldAt os o 2) ∨
    (o = 128 + 12 * k ∧ byteAt os (121 + 12 * k) = 0 ∧ 7 < byteAt os o)))

/-- A judged field is out of its range. -/
def fieldBad (os : List Octet) (o : Nat) : Prop :=
  (stationFieldBad os o ∨ ∃ c, c < 8 ∧ channelFieldBad os c o) ∨ ∃ k, k < 8 ∧ ringFieldBad os k o

/-- One judged field: a failing entry is its offset with the range broken. -/
theorem failing_cons {p : Prop} [Decidable p] {q : Nat} {l : List (Bool × Nat)} :
    (false, o) ∈ (decide p, q) :: l ↔ (o = q ∧ ¬ p) ∨ (false, o) ∈ l := by
  simp only [List.mem_cons, Prod.mk.injEq, eq_comm (a := false), decide_eq_false_iff_not, and_comm]

theorem failing_nil : (false, o) ∈ ([] : List (Bool × Nat)) ↔ False := by simp

theorem prescaler_decide (n : Nat) : [1, 2, 4, 8].contains n = decide (n = 1 ∨ n = 2 ∨ n = 4 ∨ n = 8) := by
  simp [Bool.decide_or]

theorem failing_channelRange : (false, o) ∈ channelRange os c ↔ channelFieldBad os c o := by
  have hplace : channelOffset c = 56 + 8 * c := rfl
  simp only [channelRange, channelOffset_add, Nat.reduceAdd, channelFieldBad, prescaler_decide, failing_cons]
  rw [hplace]
  by_cases hcapture : byteAt os (56 + 8 * c) = 1
  · simp only [if_pos hcapture, failing_cons, failing_nil]
    grind
  · by_cases hdrive : byteAt os (56 + 8 * c) = 2
    · simp only [if_neg hcapture, if_pos hdrive, failing_cons, failing_nil]
      grind
    · simp only [if_neg hcapture, if_neg hdrive, failing_nil]
      grind

theorem failing_ringRange (hk : k < 8) : (false, o) ∈ ringRange os k ↔ ringFieldBad os k o := by
  have hplace : ringOffset k = 120 + 12 * k := rfl
  simp only [ringRange, ringOffset_add, Nat.reduceAdd, ringFieldBad, definesRing, hk, true_and, failing_cons]
  rw [hplace]
  by_cases hdefined : byteAt os (120 + 12 * k) = 1
  · simp only [if_pos hdefined, failing_cons, failing_nil]
    grind
  · simp only [if_neg hdefined, failing_nil]
    grind

/-- The judged fields before the channels. -/
def stationRange (os : List Octet) : List (Bool × Nat) := (rangeChecks os).take 11

theorem rangeChecks_eq (os : List Octet) : rangeChecks os =
    stationRange os ++ (List.range 8).flatMap (channelRange os) ++ (List.range 8).flatMap (ringRange os) := rfl

theorem failing_stationRange : (false, o) ∈ stationRange os ↔ stationFieldBad os o := by
  simp only [stationRange, rangeChecks, List.cons_append, List.take_succ_cons, List.take_zero, failing_cons, failing_nil,
    stationFieldBad, Nat.reducePow, Nat.not_le, Nat.not_lt, or_false]

theorem failing_rangeChecks : (false, o) ∈ rangeChecks os ↔ fieldBad os o := by
  simp only [rangeChecks_eq, List.mem_append, List.mem_flatMap, List.mem_range, failing_stationRange,
    failing_channelRange, fieldBad]
  exact or_congr_right (exists_congr fun k => and_congr_right fun hk => failing_ringRange hk)

/-! ### The order of the fields -/

theorem channelRange_offsets (os : List Octet) (c : Nat) :
    ((channelRange os c).map Prod.snd).Sublist ((List.range 7).map fun n => channelOffset c + n) := by
  have hfirst (n : Nat) : (((List.range 7).map fun n => channelOffset c + n).take n).Sublist _ := List.take_sublist _ _
  simp only [channelRange]
  split
  · exact hfirst 7
  · split
    · exact hfirst 3
    · exact hfirst 1

theorem ringRange_offsets (os : List Octet) (k : Nat) :
    ((ringRange os k).map Prod.snd).Sublist ([0, 1, 2, 4, 6, 8].map fun n => ringOffset k + n) := by
  have hfirst (n : Nat) : (([0, 1, 2, 4, 6, 8].map fun n => ringOffset k + n).take n).Sublist _ := List.take_sublist _ _
  simp only [ringRange]
  split
  · exact hfirst 6
  · exact hfirst 1

/-- The judged fields stand in ascending order of offset. -/
theorem rangeChecks_pairwise (os : List Octet) : (rangeChecks os).Pairwise fun x y => x.2 < y.2 := by
  let channels := (List.range 8).flatMap fun c => (List.range 7).map fun n => channelOffset c + n
  let rings := (List.range 8).flatMap fun k => [0, 1, 2, 4, 6, 8].map fun n => ringOffset k + n
  have hall : ([3, 4, 8, 10, 12, 14, 16, 18, 20, 21, 22] ++ channels ++ rings).Pairwise (· < ·) := by decide +kernel
  have hsub : ((rangeChecks os).map Prod.snd).Sublist ([3, 4, 8, 10, 12, 14, 16, 18, 20, 21, 22] ++ channels ++ rings) := by
    rw [rangeChecks_eq, List.map_append, List.map_append, List.map_flatMap, List.map_flatMap]
    exact ((List.Sublist.refl _).append (List.Sublist.flatMap_right _ fun c _ => channelRange_offsets os c)).append
      (List.Sublist.flatMap_right _ fun k _ => ringRange_offsets os k)
  exact List.pairwise_map.1 (hall.sublist hsub)

/-! ### Where the checks fail -/

/-- The second of a list in ascending order is the first that is not the least. -/
theorem second_eq_find {l : List Nat} (hl : l.Pairwise (· < ·)) :
    l[1]? = l.find? fun k => l.any fun j => decide (j < k) := by
  match l, hl with
  | [], _ => rfl
  | [a], _ => simp
  | a :: b :: rest, hl =>
    obtain ⟨hfirst, hrest⟩ := List.pairwise_cons.1 hl
    have hleast : ((a :: b :: rest).any fun j => decide (j < a)) = false := by
      simpa using fun x hx => (hfirst x hx).le
    have hsecond : ((a :: b :: rest).any fun j => decide (j < b)) = true := by
      simp [hfirst b List.mem_cons_self]
    rw [List.find?_cons_of_neg (by simp [hleast]), List.find?_cons_of_pos (by exact hsecond)]
    rfl

/-- Where a check of R188 fails. -/
def checkFails (os : List Octet) : Nat → Nat → Prop
  | 1, o => fieldBad os o
  | 2, o => o = 4 ∧ fieldAt os 4 4 % byteAt os 3 ≠ 0
  | 3, o => o = 2 ∧ byteAt os 3 ≤ byteAt os 2
  | 4, o => o = 12 ∧ fieldAt os 4 4 / 20 < fieldAt os 12 2
  | 5, o => o = 18 ∧ fieldAt os 4 4 / byteAt os 3 <
      fieldAt os 8 2 + (24 + fieldAt os 18 2 + 4) * 10 * bitNs (byteAt os 16) + 2 * fieldAt os 10 2 + fieldAt os 12 2 + 1000
  | 6, o => ∃ k, definesRing os k ∧ o = 122 + 12 * k ∧ 2048 < fieldAt os (122 + 12 * k) 2 + fieldAt os (124 + 12 * k) 2
  | 7, o => ∃ j k, j < k ∧ definesRing os j ∧ definesRing os k ∧ o = 122 + 12 * k ∧
      fieldAt os (122 + 12 * k) 2 < fieldAt os (122 + 12 * j) 2 + fieldAt os (124 + 12 * j) 2 ∧
      fieldAt os (122 + 12 * j) 2 < fieldAt os (122 + 12 * k) 2 + fieldAt os (124 + 12 * k) 2
  | 8, o => ∃ j k, j < k ∧ definesRing os j ∧ definesRing os k ∧ o = 121 + 12 * k ∧
      byteAt os (121 + 12 * j) = 2 ∧ byteAt os (121 + 12 * k) = 2
  | 9, o => ∃ c, c < 8 ∧ o = 62 + 8 * c ∧ byteAt os (56 + 8 * c) = 1 ∧ byteAt os (62 + 8 * c) ≠ 255 ∧
      ¬ (definesRing os (byteAt os (62 + 8 * c)) ∧ byteAt os (121 + 12 * byteAt os (62 + 8 * c)) = 0 ∧
        byteAt os (128 + 12 * byteAt os (62 + 8 * c)) = c)
  | _, _ => False

/-- A check of the defined rings reports the first that fails it. -/
theorem reports_rings (p : Nat → Bool) (n : Nat) :
    Reports (((definedRings os).find? p).map fun k => ringOffset k + n) fun o =>
      ∃ k, definesRing os k ∧ p k = true ∧ o = 120 + n + 12 * k := by
  have hsorted : (definedRings os).Pairwise fun j k => ringOffset j + n < ringOffset k + n :=
    (definedRings_pairwise os).imp fun h => by unfold ringOffset; omega
  refine (reports_find hsorted p).congr fun o => ?_
  simp only [mem_definedRings, ringOffset_add, eq_comm (a := o)]

theorem reports_ringOutside : Reports (checkOffset os 6) (checkFails os 6) := by
  refine (reports_rings _ 2).congr fun o => exists_congr fun k => and_congr_right fun hk => ?_
  simp only [decide_eq_true_eq, ringOffset_add, Nat.reduceAdd, Config.recordPlaces, and_comm]

theorem reports_ringOverlapping : Reports (checkOffset os 7) (checkFails os 7) := by
  refine (reports_rings _ 2).congr fun o => ?_
  simp only [checkFails, List.any_eq_true, mem_definedRings, ringsOverlap, ringOffset_add, Nat.reduceAdd,
    Bool.and_eq_true, decide_eq_true_eq]
  constructor
  · rintro ⟨k, hk, ⟨j, hj, hjk, hjk', hkj⟩, ho⟩
    exact ⟨j, k, hjk, hj, hk, ho, hkj, hjk'⟩
  · rintro ⟨j, k, hjk, hj, hk, ho, hkj, hjk'⟩
    exact ⟨k, hk, ⟨j, hj, hjk, hjk', hkj⟩, ho⟩

theorem reports_secondReports : Reports (checkOffset os 8) (checkFails os 8) := by
  let reporting := (definedRings os).filter fun k => byteAt os (ringOffset k + 1) == 2
  have hmem (k : Nat) : k ∈ reporting ↔ definesRing os k ∧ byteAt os (121 + 12 * k) = 2 := by
    simp [reporting, mem_definedRings, ringOffset_add]
  have hsorted : reporting.Pairwise (· < ·) := (definedRings_pairwise os).filter _
  have hoffset : checkOffset os 8 =
      (reporting.find? fun k => reporting.any fun j => decide (j < k)).map fun k => ringOffset k + 1 := by
    rw [← second_eq_find hsorted]
    rfl
  have hplaces : reporting.Pairwise fun j k => ringOffset j + 1 < ringOffset k + 1 :=
    hsorted.imp fun h => by unfold ringOffset; omega
  rw [hoffset]
  refine (reports_find hplaces _).congr fun o => ?_
  simp only [checkFails, hmem, List.any_eq_true, decide_eq_true_eq, ringOffset_add, Nat.reduceAdd]
  constructor
  · rintro ⟨k, ⟨hk, hsource⟩, ⟨j, ⟨hj, hsource'⟩, hjk⟩, ho⟩
    exact ⟨j, k, hjk, hj, hk, ho.symm, hsource', hsource⟩
  · rintro ⟨j, k, hjk, hj, hk, ho, hsource', hsource⟩
    exact ⟨k, ⟨hk, hsource⟩, ⟨j, ⟨hj, hsource'⟩, hjk⟩, ho.symm⟩

/-- The ring number of a CAPTURE channel is one of the eight where every field is in its range. -/
theorem ring_lt_of_inRange (h : ∀ o, ¬ fieldBad os o) (hc : c < 8) (hrole : byteAt os (56 + 8 * c) = 1)
    (hring : byteAt os (62 + 8 * c) ≠ 255) : byteAt os (62 + 8 * c) < 8 := by
  by_contra hlarge
  refine h (62 + 8 * c) (Or.inl (Or.inr ⟨c, hc, Or.inr (Or.inl ⟨hrole, ?_⟩)⟩))
  exact Or.inr (Or.inr (Or.inr (Or.inr (Or.inr ⟨rfl, by omega, hring⟩))))

theorem reports_channelRingWrong (h : ∀ o, ¬ fieldBad os o) : Reports (checkOffset os 9) (checkFails os 9) := by
  have hsorted : (List.range 8).Pairwise fun c d => channelOffset c + 6 < channelOffset d + 6 :=
    List.pairwise_lt_range.imp fun h => by unfold channelOffset; omega
  refine (reports_find hsorted _).congr fun o => exists_congr fun c => ?_
  have hplace : channelOffset c = 56 + 8 * c := rfl
  have hdefined (k : Nat) : ringDefined os k = true ↔ byteAt os (120 + 12 * k) = 1 := beq_iff_eq
  simp only [channelOffset_add, ringOffset_add, Nat.reduceAdd]
  simp only [List.mem_range, hplace, Bool.and_eq_true, beq_iff_eq, bne_iff_ne, Bool.not_eq_true', ← Bool.not_eq_true,
    hdefined, definesRing]
  constructor
  · rintro ⟨hc, ⟨⟨hrole, hring⟩, hwrong⟩, ho⟩
    exact ⟨hc, ho.symm, hrole, hring, fun ⟨⟨_, hdefined⟩, hsource, hchannel⟩ => hwrong ⟨⟨hdefined, hsource⟩, hchannel⟩⟩
  · rintro ⟨hc, ho, hrole, hring, hwrong⟩
    exact ⟨hc, ⟨⟨hrole, hring⟩, fun ⟨⟨hdefined, hsource⟩, hchannel⟩ =>
      hwrong ⟨⟨ring_lt_of_inRange h hc hrole hring, hdefined⟩, hsource, hchannel⟩⟩, ho.symm⟩

theorem reports_rangeChecks : Reports (checkOffset os 1) (checkFails os 1) := by
  refine (reports_find (rangeChecks_pairwise os) _).congr fun o => ?_
  rw [checkFails, ← failing_rangeChecks]
  simp

/-- Each check reports the least offset at which it fails; the last check where every field is in its range. -/
theorem reports_check (check : Nat) (h : check = 9 → ∀ o, ¬ fieldBad os o) :
    Reports (checkOffset os check) (checkFails os check) := by
  match check with
  | 1 => exact reports_rangeChecks
  | 2 => exact reports_ite _ 4
  | 3 => exact reports_ite _ 2
  | 4 => exact reports_ite _ 12
  | 5 => exact (reports_ite _ 18).congr fun o => by simp [slotFits, checkFails]
  | 6 => exact reports_ringOutside
  | 7 => exact reports_ringOverlapping
  | 8 => exact reports_secondReports
  | 9 => exact reports_channelRingWrong (h rfl)
  | 0 => exact fun _ => id
  | _ + 10 => exact fun _ => id

/-! ### The judgement as a whole -/

/-- LOAD_PROFILE's judgement is of the first check that fails, at the least offset at which it does (R188). -/
theorem profileError_some_iff_fails {code : Octet} : profileError os = some (code, o) ↔
    ∃ check, code = octetOf check ∧ checkFails os check o ∧ (∀ p, p < o → ¬ checkFails os check p) ∧
      ∀ c p, c < check → ¬ checkFails os c p := by
  have hranges : checkOffset os 1 = none ↔ ∀ o, ¬ fieldBad os o := reports_rangeChecks.none_iff
  rw [profileError_some_iff]
  refine exists_congr fun check => and_congr_right fun _ => ?_
  constructor
  · rintro ⟨hreported, hbefore⟩
    have hin (hlt : 1 < check) : ∀ o, ¬ fieldBad os o := hranges.1 (hbefore 1 hlt)
    obtain ⟨hfails, hleast⟩ := (reports_check check fun hlast => hin (by omega)).some_iff.1 hreported
    exact ⟨hfails, hleast, fun c p hc => (reports_check c fun hlast => hin (by omega)).none_iff.1 (hbefore c hc) p⟩
  · rintro ⟨hfails, hleast, hbefore⟩
    have hin (hlt : 1 < check) : ∀ o, ¬ fieldBad os o := fun p => hbefore 1 p hlt
    exact ⟨(reports_check check fun hlast => hin (by omega)).some_iff.2 ⟨hfails, hleast⟩,
      fun c hc => (reports_check c fun hlast => hin (by omega)).none_iff.2 fun p => hbefore c p hc⟩

/-- A profile is accepted exactly when no check fails anywhere (R187, R188). -/
theorem profileError_none_iff_fails : profileError os = none ↔ ∀ check o, ¬ checkFails os check o := by
  have hranges : checkOffset os 1 = none ↔ ∀ o, ¬ fieldBad os o := reports_rangeChecks.none_iff
  rw [profileError_none_iff]
  exact ⟨fun h check => (reports_check check fun _ => hranges.1 (h 1)).none_iff.1 (h check),
    fun h check => (reports_check check fun _ => h 1).none_iff.2 (h check)⟩

end Sys2Proof.Machine
end

section
/-! SETTLED. LOAD_PROFILE (O11). -/

namespace Sys2Proof.Machine

variable {s : State} {os : List Octet}

theorem takeLoadProfile_refused (h : s.timebase.sync ≠ .off) :
    takeLoadProfile os s = (s, Answer.only Code.refusedState) := by
  unfold takeLoadProfile
  cases hsync : s.timebase.sync with
  | off => exact absurd hsync h
  | listen => rfl
  | coldstart => rfl
  | joining => rfl
  | synced => rfl
  | holdover => rfl

theorem takeLoadProfile_kept (h : s.timebase.sync = .off) (haccepted : profileError os = none) :
    takeLoadProfile os s = ({ s with port := { s.port with loaded := some os } }, Answer.done []) := by
  simp only [takeLoadProfile, h, haccepted]

theorem takeLoadProfile_error {code : Octet} {offset : Nat} (h : s.timebase.sync = .off)
    (herror : profileError os = some (code, offset)) :
    takeLoadProfile os s = (s, { code := Code.profileError, data := code :: le 2 offset }) := by
  simp only [takeLoadProfile, h, herror]

theorem exec_loadProfile {t : State} {a : Answer} (ho : s.portOpen) (hl : os.length = 216)
    (htake : takeLoadProfile os s = (t, a)) : exec (.loadProfile os) s = .next (t.answering 217 400 a.code a.data) := by
  have hcount : 1 + os.length = 217 := by omega
  rw [← hcount]
  exact congrArg Host.Outcome.next (portCommand_answers .loadProfile os ho hl rfl htake)

/-- Settles O11: the owner's answer by its judgement, and the judgement by the first check that fails. -/
theorem loadProfileJudged : Obligations.LoadProfileJudged := by
  refine ⟨fun s os ho hl => ⟨fun hsync => exec_loadProfile ho hl (takeLoadProfile_refused hsync),
    fun hsync haccepted => exec_loadProfile ho hl (takeLoadProfile_kept hsync haccepted),
    fun code offset hsync herror => exec_loadProfile ho hl (takeLoadProfile_error hsync herror)⟩, ?judged⟩
  case judged =>
    intro os octet field role ring defined source base length bit outOfRange fails code o
    have hrange (o : Nat) : outOfRange o ↔ fieldBad os o := by
      simp only [fieldBad, stationFieldBad, or_assoc]
      exact Iff.rfl
    have hfails (check o : Nat) : fails check o ↔ checkFails os check o := by
      constructor
      · rintro (⟨rfl, h⟩ | ⟨rfl, h⟩ | ⟨rfl, h⟩ | ⟨rfl, h⟩ | ⟨rfl, h⟩ | ⟨rfl, h⟩ | ⟨rfl, h⟩ | ⟨rfl, h⟩ | ⟨rfl, h⟩)
        · exact (hrange o).1 h
        all_goals exact h
      · intro h
        match check, h with
        | 1, h => exact .inl ⟨rfl, (hrange o).2 h⟩
        | 2, h => exact .inr (.inl ⟨rfl, h⟩)
        | 3, h => exact .inr (.inr (.inl ⟨rfl, h⟩))
        | 4, h => exact .inr (.inr (.inr (.inl ⟨rfl, h⟩)))
        | 5, h => exact .inr (.inr (.inr (.inr (.inl ⟨rfl, h⟩))))
        | 6, h => exact .inr (.inr (.inr (.inr (.inr (.inl ⟨rfl, h⟩)))))
        | 7, h => exact .inr (.inr (.inr (.inr (.inr (.inr (.inl ⟨rfl, h⟩))))))
        | 8, h => exact .inr (.inr (.inr (.inr (.inr (.inr (.inr (.inl ⟨rfl, h⟩)))))))
        | 9, h => exact .inr (.inr (.inr (.inr (.inr (.inr (.inr (.inr ⟨rfl, h⟩)))))))
    simp only [hfails]
    exact profileError_some_iff_fails

end Sys2Proof.Machine
end

section
/-! SUPPORT. A profile that passes the checks of R188: its fields in their ranges, and the settings that the blocks take from
them (R188, R189). -/

namespace Sys2Proof.Machine

variable {os : List Octet} {c k : Nat}

/-! ### Fields in their ranges -/

/-- The fields of channel c are in their ranges (R188). -/
def channelInRange (os : List Octet) (c : Nat) : Prop :=
  byteAt os (56 + 8 * c) ≤ 2 ∧
  (byteAt os (56 + 8 * c) = 1 → (1 ≤ byteAt os (57 + 8 * c) ∧ byteAt os (57 + 8 * c) ≤ 15) ∧
    byteAt os (58 + 8 * c) ≤ 7 ∧ byteAt os (59 + 8 * c) ≤ 2 ∧
    (byteAt os (60 + 8 * c) = 1 ∨ byteAt os (60 + 8 * c) = 2 ∨ byteAt os (60 + 8 * c) = 4 ∨ byteAt os (60 + 8 * c) = 8) ∧
    byteAt os (61 + 8 * c) ≤ 1 ∧ (byteAt os (62 + 8 * c) ≤ 7 ∨ byteAt os (62 + 8 * c) = 255)) ∧
  (byteAt os (56 + 8 * c) = 2 → byteAt os (57 + 8 * c) ≤ 1 ∧ byteAt os (58 + 8 * c) ≤ 1)

/-- The fields of ring k, where it is defined, are in their ranges (R188). -/
def ringInRange (os : List Octet) (k : Nat) : Prop :=
  byteAt os (121 + 12 * k) ≤ 2 ∧ fieldAt os (122 + 12 * k) 2 ≤ 2047 ∧
  (4 ≤ fieldAt os (124 + 12 * k) 2 ∧ fieldAt os (124 + 12 * k) 2 ≤ 2048) ∧
  fieldAt os (126 + 12 * k) 2 < fieldAt os (124 + 12 * k) 2 ∧
  (byteAt os (121 + 12 * k) = 0 → byteAt os (128 + 12 * k) ≤ 7)

/-- The checks of R188, as what a profile that passes them satisfies. -/
structure Accepted (os : List Octet) : Prop where
  stations : 2 ≤ byteAt os 3 ∧ byteAt os 3 ≤ 16
  period : 50000 ≤ fieldAt os 4 4 ∧ fieldAt os 4 4 ≤ 50000000 ∧ fieldAt os 4 4 % 1000 = 0
  sendOffset : 1000 ≤ fieldAt os 8 2
  window : 50 ≤ fieldAt os 10 2 ∧ fieldAt os 10 2 ≤ 32767
  corrLimit : 100 ≤ fieldAt os 12 2
  minRefs : 1 ≤ byteAt os 14 ∧ byteAt os 14 ≤ 15
  bitRate : byteAt os 16 ≤ 2
  bodyBudget : 32 ≤ fieldAt os 18 2 ∧ fieldAt os 18 2 ≤ 512 ∧ fieldAt os 18 2 % 8 = 0
  replyDeadline : 2 ≤ byteAt os 20 ∧ byteAt os 20 ≤ 64
  holdSettings : byteAt os 21 % 4 ≤ 2 ∧ byteAt os 21 < 16
  noticeMask : fieldAt os 22 2 < 32768
  channels : ∀ c, c < 8 → channelInRange os c
  ringFlags : ∀ k, k < 8 → byteAt os (120 + 12 * k) ≤ 1
  rings : ∀ k, definesRing os k → ringInRange os k
  slotsEqual : fieldAt os 4 4 % byteAt os 3 = 0
  ownStation : byteAt os 2 < byteAt os 3
  limitFits : fieldAt os 12 2 ≤ fieldAt os 4 4 / 20
  slotFits : fieldAt os 8 2 + (24 + fieldAt os 18 2 + 4) * 10 * bitNs (byteAt os 16) + 2 * fieldAt os 10 2 +
    fieldAt os 12 2 + 1000 ≤ fieldAt os 4 4 / byteAt os 3
  inside : ∀ k, definesRing os k → fieldAt os (122 + 12 * k) 2 + fieldAt os (124 + 12 * k) 2 ≤ 2048
  apart : ∀ j k, definesRing os j → definesRing os k → j < k →
    fieldAt os (122 + 12 * j) 2 + fieldAt os (124 + 12 * j) 2 ≤ fieldAt os (122 + 12 * k) 2 ∨
      fieldAt os (122 + 12 * k) 2 + fieldAt os (124 + 12 * k) 2 ≤ fieldAt os (122 + 12 * j) 2
  oneReports : ∀ j k, definesRing os j → definesRing os k → byteAt os (121 + 12 * j) = 2 →
    byteAt os (121 + 12 * k) = 2 → j = k
  channelRings : ∀ c, c < 8 → byteAt os (56 + 8 * c) = 1 → byteAt os (62 + 8 * c) ≠ 255 →
    definesRing os (byteAt os (62 + 8 * c)) ∧ byteAt os (121 + 12 * byteAt os (62 + 8 * c)) = 0 ∧
      byteAt os (128 + 12 * byteAt os (62 + 8 * c)) = c

theorem channelRange_passes : (∀ x ∈ channelRange os c, x.1 = true) ↔ channelInRange os c := by
  have hplace : channelOffset c = 56 + 8 * c := rfl
  simp only [channelRange, channelOffset_add, Nat.reduceAdd, prescaler_decide, List.forall_mem_cons, decide_eq_true_eq]
  rw [hplace, channelInRange]
  refine and_congr_right fun _ => ?_
  by_cases hcapture : byteAt os (56 + 8 * c) = 1
  · simp [hcapture]
  · by_cases hdrive : byteAt os (56 + 8 * c) = 2 <;> simp [hcapture, hdrive]

theorem ringRange_passes (hk : k < 8) :
    (∀ x ∈ ringRange os k, x.1 = true) ↔ byteAt os (120 + 12 * k) ≤ 1 ∧ (definesRing os k → ringInRange os k) := by
  have hplace : ringOffset k = 120 + 12 * k := rfl
  simp only [ringRange, ringOffset_add, Nat.reduceAdd, List.forall_mem_cons, decide_eq_true_eq]
  rw [hplace]
  refine and_congr_right fun _ => ?_
  by_cases hdefined : byteAt os (120 + 12 * k) = 1
  · have hdefines : definesRing os k := ⟨hk, hdefined⟩
    simp only [if_pos hdefined, List.forall_mem_cons, decide_eq_true_eq, hdefines, true_imp_iff, ringInRange, ne_eq,
      ← imp_iff_not_or, List.not_mem_nil, false_imp_iff, implies_true, and_true]
  · simp [definesRing, hdefined]

theorem stationRange_passes : (∀ x ∈ stationRange os, x.1 = true) ↔
    (2 ≤ byteAt os 3 ∧ byteAt os 3 ≤ 16) ∧
    (50000 ≤ fieldAt os 4 4 ∧ fieldAt os 4 4 ≤ 50000000 ∧ fieldAt os 4 4 % 1000 = 0) ∧ 1000 ≤ fieldAt os 8 2 ∧
    (50 ≤ fieldAt os 10 2 ∧ fieldAt os 10 2 ≤ 32767) ∧ 100 ≤ fieldAt os 12 2 ∧
    (1 ≤ byteAt os 14 ∧ byteAt os 14 ≤ 15) ∧ byteAt os 16 ≤ 2 ∧
    (32 ≤ fieldAt os 18 2 ∧ fieldAt os 18 2 ≤ 512 ∧ fieldAt os 18 2 % 8 = 0) ∧
    (2 ≤ byteAt os 20 ∧ byteAt os 20 ≤ 64) ∧ (byteAt os 21 % 4 ≤ 2 ∧ byteAt os 21 < 16) ∧ fieldAt os 22 2 < 32768 := by
  simp only [stationRange, rangeChecks, List.cons_append, List.take_succ_cons, List.take_zero, List.forall_mem_cons,
    decide_eq_true_eq, Nat.reducePow, List.not_mem_nil, false_imp_iff, implies_true, and_true]

theorem rangeChecks_pass : (∀ o, ¬ fieldBad os o) ↔ (∀ x ∈ stationRange os, x.1 = true) ∧
    (∀ c, c < 8 → channelInRange os c) ∧
    ∀ k, k < 8 → byteAt os (120 + 12 * k) ≤ 1 ∧ (definesRing os k → ringInRange os k) := by
  have hchecks : (∀ o, ¬ fieldBad os o) ↔ ∀ x ∈ rangeChecks os, x.1 = true := by
    simp [← failing_rangeChecks]
  rw [hchecks, rangeChecks_eq]
  simp only [List.forall_mem_append, List.forall_mem_flatMap, List.mem_range, channelRange_passes, and_assoc]
  exact and_congr_right' (and_congr_right' (forall_congr' fun k => imp_congr_right fun hk => ringRange_passes hk))

/-- LOAD_PROFILE accepts exactly the profiles that pass the checks (R187, R188). -/
theorem profileError_none_iff_accepted : profileError os = none ↔ Accepted os := by
  rw [profileError_none_iff_fails]
  constructor
  · intro h
    obtain ⟨hstation, hchannels, hrings⟩ := rangeChecks_pass.1 (h 1)
    obtain ⟨hs, hp, ho, hw, hc, hm, hb, hbody, hreply, hhold, hnotice⟩ := stationRange_passes.1 hstation
    refine ⟨hs, hp, ho, hw, hc, hm, hb, hbody, hreply, hhold, hnotice, hchannels, fun k hk => (hrings k hk).1,
      fun k hk => (hrings k hk.1).2 hk, by_contra fun hf => h 2 4 ⟨rfl, hf⟩, Nat.lt_of_not_le fun hf => h 3 2 ⟨rfl, hf⟩,
      Nat.le_of_not_lt fun hf => h 4 12 ⟨rfl, hf⟩, Nat.le_of_not_lt fun hf => h 5 18 ⟨rfl, hf⟩,
      fun k hk => Nat.le_of_not_lt fun hf => h 6 _ ⟨k, hk, rfl, hf⟩, fun j k hj hk hjk => ?apart,
      fun j k hj hk hsource hsource' => ?oneReports,
      fun c hc hrole hring => by_contra fun hf => h 9 _ ⟨c, hc, rfl, hrole, hring, hf⟩⟩
    case apart =>
      by_contra hf
      exact h 7 _ ⟨j, k, hjk, hj, hk, rfl, by omega, by omega⟩
    case oneReports =>
      rcases Nat.lt_trichotomy j k with hlt | heq | hlt
      · exact absurd ⟨j, k, hlt, hj, hk, rfl, hsource, hsource'⟩ (h 8 _)
      · exact heq
      · exact absurd ⟨k, j, hlt, hk, hj, rfl, hsource', hsource⟩ (h 8 _)
  · intro h check o hf
    match check, hf with
    | 1, hf =>
      refine rangeChecks_pass.2 ⟨stationRange_passes.2 ?_, h.channels, fun k hk => ⟨h.ringFlags k hk, h.rings k⟩⟩ o hf
      exact ⟨h.stations, h.period, h.sendOffset, h.window, h.corrLimit, h.minRefs, h.bitRate, h.bodyBudget,
        h.replyDeadline, h.holdSettings, h.noticeMask⟩
    | 2, ⟨_, hf⟩ => exact hf h.slotsEqual
    | 3, ⟨_, hf⟩ => exact Nat.not_le.2 h.ownStation hf
    | 4, ⟨_, hf⟩ => exact Nat.not_lt.2 h.limitFits hf
    | 5, ⟨_, hf⟩ => exact Nat.not_lt.2 h.slotFits hf
    | 6, ⟨k, hk, _, hf⟩ => exact Nat.not_lt.2 (h.inside k hk) hf
    | 7, ⟨j, k, hjk, hj, hk, _, hbelow, habove⟩ =>
      have hapart := h.apart j k hj hk hjk
      omega
    | 8, ⟨j, k, hjk, hj, hk, _, hsource, hsource'⟩ => exact hjk.ne (h.oneReports j k hj hk hsource hsource')
    | 9, ⟨c, hc, _, hrole, hring, hf⟩ => exact hf (h.channelRings c hc hrole hring)

/-! ### Numbers of two octets -/

theorem leValue_lt (os : List Octet) : leValue os < 256 ^ os.length := by
  induction os with
  | nil => simp [leValue]
  | cons o os ih =>
    have ho := o.isLt
    rw [leValue, List.length_cons, Nat.pow_succ]
    omega

theorem fieldAt_two_le (os : List Octet) (i : Nat) : fieldAt os i 2 ≤ 65535 := by
  have hvalue := leValue_lt ((os.drop i).take 2)
  have hlength : ((os.drop i).take 2).length ≤ 2 := List.length_take_le 2 _
  have hpow : 256 ^ ((os.drop i).take 2).length ≤ 256 ^ 2 := Nat.pow_le_pow_right (by decide) hlength
  rw [fieldAt]
  omega

/-! ### The settings that the blocks take (10.7.6) -/

theorem bitNs_eq (code : Nat) : bitNs code = 400 ∨ bitNs code = 200 ∨ bitNs code = 100 := by
  unfold bitNs
  split
  · exact .inl rfl
  · split
    · exact .inr (.inl rfl)
    · exact .inr (.inr rfl)

/-- A bit of 4, 8 or 16 reference periods of 25 ns (R37). -/
theorem bitPeriods_ns (os : List Octet) :
    25 * (profileOf os).bitPeriods = bitNs (byteAt os 16) ∧
      ((profileOf os).bitPeriods = 4 ∨ (profileOf os).bitPeriods = 8 ∨ (profileOf os).bitPeriods = 16) := by
  have hperiods : (profileOf os).bitPeriods = bitNs (byteAt os 16) / 25 := rfl
  have hns := bitNs_eq (byteAt os 16)
  omega

/-- What ring k takes by the octets of its definition (R75). -/
def ringSourceOf (os : List Octet) (k : Nat) : RingSource :=
  if byteAt os (121 + 12 * k) = 0 then .localChannel (byteAt os (128 + 12 * k))
  else if byteAt os (121 + 12 * k) = 1 then .peerMarks (word16At os (130 + 12 * k)) (octetAt os (128 + 12 * k))
  else .reports

theorem ringDefOf_defined (h : definesRing os k) : ringDefOf os k =
    some
      { base := fieldAt os (122 + 12 * k) 2, length := fieldAt os (124 + 12 * k) 2, source := ringSourceOf os k
        low := fieldAt os (126 + 12 * k) 2 } := by
  have hdefined : ringDefined os k = true := beq_iff_eq.2 h.2
  simp only [ringDefOf, hdefined, if_true, ringSourceOf, ringOffset_add, Nat.reduceAdd]

theorem ringDefOf_undefined (hk : k < 8) (h : ¬ definesRing os k) : ringDefOf os k = none := by
  have hundefined : ¬ ringDefined os k = true := fun hdefined => h ⟨hk, beq_iff_eq.1 hdefined⟩
  rw [ringDefOf, if_neg hundefined]

/-- A ring of the profile is defined, by the octets of its number. -/
theorem ring_of_profileOf {d : RingDef} (h : (profileOf os).rings[k]? = some (some d)) :
    definesRing os k ∧ ringDefOf os k = some d := by
  have hk : k < 8 := (Vector.getElem?_eq_some_iff.1 h).1
  have hget : (profileOf os).rings[k]? = some (ringDefOf os k) := tableOf_get _ hk
  have hd : ringDefOf os k = some d := Option.some.inj (hget.symm.trans h)
  refine ⟨by_contra fun hundefined => ?_, hd⟩
  rw [ringDefOf_undefined hk hundefined] at hd
  cases hd

/-- The capture settings of channel c (10.7.6). -/
def captureCfgOf (os : List Octet) (c : Nat) : CaptureCfg where
  filterLen := byteAt os (57 + 8 * c)
  sampleExp := byteAt os (58 + 8 * c)
  edgeSel := (edgeSelOf (octetAt os (59 + 8 * c))).getD .either
  prescaler := byteAt os (60 + 8 * c)
  publish := byteAt os (61 + 8 * c) == 1
  ring := if byteAt os (62 + 8 * c) = 0xFF then none else some (byteAt os (62 + 8 * c))

/-- The drive settings of channel c (10.7.6). -/
def driveCfgOf (os : List Octet) (c : Nat) : DriveCfg where
  rest := levelOfBit (byteAt os (57 + 8 * c) == 1)
  safe := levelOfBit (byteAt os (58 + 8 * c) == 1)
  permit := word16At os (60 + 8 * c)

theorem channelCfgOf_eq (os : List Octet) (c : Nat) : channelCfgOf os c =
    if byteAt os (56 + 8 * c) = 1 then .capture (captureCfgOf os c)
    else if byteAt os (56 + 8 * c) = 2 then .drive (driveCfgOf os c)
    else .unused := by
  have hplace : channelOffset c = 56 + 8 * c := rfl
  simp only [channelCfgOf, channelOffset_add, Nat.reduceAdd, captureCfgOf, driveCfgOf]
  rw [hplace]

theorem channelCfgOf_unused (h : byteAt os (56 + 8 * c) = 0) : channelCfgOf os c = .unused := by
  simp [channelCfgOf_eq, h]

theorem channelCfgOf_capture (h : byteAt os (56 + 8 * c) = 1) : channelCfgOf os c = .capture (captureCfgOf os c) := by
  rw [channelCfgOf_eq, if_pos h]

theorem channelCfgOf_drive (h : byteAt os (56 + 8 * c) = 2) : channelCfgOf os c = .drive (driveCfgOf os c) := by
  simp [channelCfgOf_eq, h]

theorem channel_of_profileOf (hc : c < 8) : (profileOf os).channels[c]? = some (channelCfgOf os c) := tableOf_get _ hc

/-- A CAPTURE channel of the profile has that role in its octets. -/
theorem capture_of_profileOf {cfg : CaptureCfg} (h : (profileOf os).channels[c]? = some (.capture cfg)) :
    c < 8 ∧ byteAt os (56 + 8 * c) = 1 ∧ cfg = captureCfgOf os c := by
  have hc : c < 8 := (Vector.getElem?_eq_some_iff.1 h).1
  have hcfg : channelCfgOf os c = .capture cfg := Option.some.inj ((channel_of_profileOf hc).symm.trans h)
  rw [channelCfgOf_eq] at hcfg
  split at hcfg
  · next hrole => exact ⟨hc, hrole, (ChannelCfg.capture.inj hcfg).symm⟩
  · split at hcfg <;> cases hcfg

/-- An edge select in its range names one of the three (R62). -/
theorem edgeSelOf_inRange {o : Octet} (h : o.toNat ≤ 2) : ∃ sel, edgeSelOf o = some sel := by
  have hone : o = 0 ∨ o = 1 ∨ o = 2 := by bv_omega
  rcases hone with rfl | rfl | rfl
  · exact ⟨.rising, rfl⟩
  · exact ⟨.falling, rfl⟩
  · exact ⟨.either, rfl⟩

theorem levelOfBit_high (b : Bool) : levelOfBit b = .high ↔ b = true := by cases b <;> decide

theorem ringSourceOf_local (h : byteAt os (121 + 12 * k) = 0) :
    ringSourceOf os k = .localChannel (byteAt os (128 + 12 * k)) := if_pos h

theorem ringSourceOf_peer (h : byteAt os (121 + 12 * k) = 1) :
    ringSourceOf os k = .peerMarks (word16At os (130 + 12 * k)) (octetAt os (128 + 12 * k)) := by
  simp only [ringSourceOf, h, Nat.one_ne_zero, if_false, if_true]

theorem ringSourceOf_two (h : byteAt os (121 + 12 * k) = 2) : ringSourceOf os k = .reports := by
  simp [ringSourceOf, h]

/-- A ring whose source code is in its range takes reports exactly with the code 2 (R75). -/
theorem ringSourceOf_reports (h : ringSourceOf os k = .reports) (hrange : byteAt os (121 + 12 * k) ≤ 2) :
    byteAt os (121 + 12 * k) = 2 := by
  unfold ringSourceOf at h
  split at h
  · cases h
  · split at h
    · cases h
    · omega

/-- Two rings of an accepted profile lie apart, and one at most takes reports (R188). -/
theorem Accepted.rings_apart (h : Accepted os) {j : Nat} {d e : RingDef} (hjk : j ≠ k)
    (hd : (profileOf os).rings[j]? = some (some d)) (he : (profileOf os).rings[k]? = some (some e)) :
    (d.base + d.length ≤ e.base ∨ e.base + e.length ≤ d.base) ∧ ¬ (d.source = .reports ∧ e.source = .reports) := by
  obtain ⟨hj, hd⟩ := ring_of_profileOf hd
  obtain ⟨hk, he⟩ := ring_of_profileOf he
  rw [ringDefOf_defined hj] at hd
  rw [ringDefOf_defined hk] at he
  cases hd
  cases he
  obtain ⟨hsource, -⟩ := h.rings j hj
  obtain ⟨hsource', -⟩ := h.rings k hk
  refine ⟨?_, fun ⟨hreports, hreports'⟩ => hjk (h.oneReports j k hj hk (ringSourceOf_reports hreports hsource)
    (ringSourceOf_reports hreports' hsource'))⟩
  rcases Nat.lt_or_gt_of_ne hjk with hlt | hlt
  · exact h.apart j k hj hk hlt
  · exact (h.apart k j hk hj hlt).symm

/-- The ring that a CAPTURE channel of an accepted profile names is a LOCAL_CHANNEL ring of that channel (R188). -/
theorem Accepted.ring_of_capture (h : Accepted os) {cfg : CaptureCfg}
    (hcfg : (profileOf os).channels[c]? = some (.capture cfg)) (hring : cfg.ring = some k) :
    ∃ d : RingDef, (profileOf os).rings[k]? = some (some d) ∧ d.source = .localChannel c := by
  obtain ⟨hc, hrole, rfl⟩ := capture_of_profileOf hcfg
  have hnamed : byteAt os (62 + 8 * c) ≠ 255 ∧ byteAt os (62 + 8 * c) = k := by
    by_cases hnone : byteAt os (62 + 8 * c) = 255
    · simp [captureCfgOf, hnone] at hring
    · exact ⟨hnone, by simpa [captureCfgOf, hnone] using hring⟩
  obtain ⟨hnone, rfl⟩ := hnamed
  obtain ⟨hdefines, hsource, hchannel⟩ := h.channelRings c hc hrole hnone
  refine ⟨_, (tableOf_get _ hdefines.1).trans (congrArg some (ringDefOf_defined hdefines)), ?_⟩
  simp only [ringSourceOf, if_pos hsource, hchannel]

/-- The settings of the HOLD line by their code (R149). -/
theorem holdLine_of_profileOf (hrange : byteAt os 21 % 4 ≤ 2) :
    ((profileOf os).holdLine = .notUsed ↔ byteAt os 21 % 4 = 0) ∧
      ((profileOf os).holdLine = .activeHigh ↔ byteAt os 21 % 4 = 1) ∧
      ((profileOf os).holdLine = .activeLow ↔ byteAt os 21 % 4 = 2) := by
  have hsetting : (profileOf os).holdLine =
    if byteAt os 21 % 4 = 1 then .activeHigh else if byteAt os 21 % 4 = 2 then .activeLow else .notUsed := rfl
  rw [hsetting]
  obtain hcode | hcode | hcode : byteAt os 21 % 4 = 0 ∨ byteAt os 21 % 4 = 1 ∨ byteAt os 21 % 4 = 2 := by omega
  all_goals simp [hcode]

end Sys2Proof.Machine
end

section
/-! SETTLED. The acceptance of a profile (O12). -/

namespace Sys2Proof.Machine

/-- Settles O12: the checks as what an accepted profile satisfies, and the settings field by field. -/
theorem acceptedProfileInRanges : Obligations.AcceptedProfileInRanges := by
  intro os octet field role defined source base length bit
  refine ⟨profileError_none_iff_accepted.trans ⟨fun h => ?passes, fun h => ?accepted⟩, fun haccepted => ?settings⟩
  case passes =>
    exact ⟨h.stations, h.period, h.sendOffset, h.window, h.corrLimit, h.minRefs, h.bitRate, h.bodyBudget,
      h.replyDeadline, h.holdSettings, h.noticeMask, h.channels, h.ringFlags, h.rings, h.slotsEqual, h.ownStation,
      h.limitFits, h.slotFits, h.inside, h.apart, h.oneReports, h.channelRings⟩
  case accepted =>
    obtain ⟨hs, hp, ho, hw, hc, hm, hb, hbody, hreply, hhold, hnotice, hchannels, hflags, hrings, hequal, hown, hlimit,
      hslot, hinside, hapart, hreports, hlocal⟩ := h
    exact ⟨hs, hp, ho, hw, hc, hm, hb, hbody, hreply, hhold, hnotice, hchannels, hflags, hrings, hequal, hown, hlimit,
      hslot, hinside, hapart, hreports, hlocal⟩
  case settings =>
    have h := profileError_none_iff_accepted.1 haccepted
    obtain ⟨hbit, hperiods⟩ := bitPeriods_ns os
    obtain ⟨hunused, hhigh, hlow⟩ := holdLine_of_profileOf h.holdSettings.1
    intro p
    refine ⟨⟨rfl, rfl, rfl, rfl, rfl, rfl, rfl, rfl, rfl, hbit, rfl, rfl, rfl⟩, fun k hk => tableOf_get _ hk,
      fun k hk => ⟨fun hnot => ?undefinedRing, fun hk => ?definedRing⟩, h.stations, h.period,
      ⟨h.sendOffset, fieldAt_two_le os 8⟩, h.window, ⟨h.corrLimit, fieldAt_two_le os 12⟩, h.minRefs, hperiods,
      h.bodyBudget, h.replyDeadline, noticeMask_accepted haccepted, h.slotsEqual, h.ownStation, h.limitFits, ?slot,
      fun k d hd => ?ring, fun j k d e hjk hd he => h.rings_apart hjk hd he,
      fun c cfg k hcfg hring => h.ring_of_capture hcfg hring, fun c hc => ⟨fun hrole => ?unused, fun hrole => ?capture,
      fun hrole => ?drive⟩, hunused, hhigh, hlow, rfl, rfl⟩
    case undefinedRing => exact (tableOf_get _ hk).trans (congrArg some (ringDefOf_undefined hk hnot))
    case definedRing =>
      refine ⟨_, (tableOf_get _ hk.1).trans (congrArg some (ringDefOf_defined hk)), rfl, rfl, rfl, fun hsource => ?_,
        fun hsource => ?_, fun hsource => ?_⟩
      · exact ringSourceOf_local hsource
      · exact ringSourceOf_peer hsource
      · exact ringSourceOf_two hsource
    case slot =>
      rw [hbit]
      exact h.slotFits
    case ring =>
      obtain ⟨hlength, hinside, hlow⟩ :=
        ringDefOf_accepted haccepted (ring_of_profileOf hd).1.1 (ring_of_profileOf hd).2
      exact ⟨hinside, hlength, hlow⟩
    case unused => exact (channel_of_profileOf hc).trans (congrArg some (channelCfgOf_unused hrole))
    case capture =>
      obtain ⟨hchannel, -⟩ := (h.channels c hc).2
      obtain ⟨-, -, hselect, -⟩ := hchannel hrole
      obtain ⟨sel, hsel⟩ := edgeSelOf_inRange hselect
      refine ⟨_, (channel_of_profileOf hc).trans (congrArg some (channelCfgOf_capture hrole)), rfl, rfl, ?_, rfl,
        beq_iff_eq, rfl⟩
      rw [captureCfgOf, hsel]
      rfl
    case drive =>
      have hlevel (n : Nat) : levelOfBit (n == 1) = .high ↔ n = 1 := (levelOfBit_high _).trans beq_iff_eq
      exact ⟨_, (channel_of_profileOf hc).trans (congrArg some (channelCfgOf_drive hrole)), hlevel _, hlevel _, rfl⟩

end Sys2Proof.Machine
end

section
/-! SUPPORT. The blocks do not see the port: their operations give the same on a state whose port is changed, and leave the
change (R181). -/

namespace Sys2Proof.Machine

section Blind

variable (f : Port → Port) (s : State)

/-- What every step of a fold does not see, the fold does not see. -/
theorem foldl_portUpdate {α : Type} {g : State → α → State}
    (h : ∀ s x, g (portUpdate f s) x = portUpdate f (g s x)) (l : List α) :
    l.foldl g (portUpdate f s) = portUpdate f (l.foldl g s) := by
  induction l generalizing s with
  | nil => rfl
  | cons x l ih => rw [List.foldl_cons, h, ih, List.foldl_cons]

/-! ### What is read of the blocks -/

@[simp] theorem ringAt_portUpdate (k : Nat) : ringAt (portUpdate f s) k = ringAt s k := rfl

@[simp] theorem entryAt_portUpdate (i : Nat) : entryAt (portUpdate f s) i = entryAt s i := rfl

@[simp] theorem recordOf_portUpdate (i : Nat) : recordOf (portUpdate f s) i = recordOf s i := rfl

@[simp] theorem driveCfg_portUpdate (c : Nat) : driveCfg (portUpdate f s) c = driveCfg s c := rfl

@[simp] theorem reportsRing_portUpdate : reportsRing (portUpdate f s) = reportsRing s := rfl

@[simp] theorem dueFires_portUpdate : dueFires (portUpdate f s) = dueFires s := rfl

@[simp] theorem dueCyclic_portUpdate : dueCyclic (portUpdate f s) = dueCyclic s := rfl

@[simp] theorem cyclicEnd_isDue_portUpdate (e : CyclicEnd) : e.isDue (portUpdate f s) = e.isDue s := rfl

@[simp] theorem recordsWhere_portUpdate (p : OutRecord → Bool) : recordsWhere p (portUpdate f s) = recordsWhere p s := rfl

@[simp] theorem roundEndDue_portUpdate : roundEndDue (portUpdate f s) = roundEndDue s := rfl

/-! ### Updates of one block -/

@[simp] theorem raise_portUpdate (c : Cause) : raise c (portUpdate f s) = portUpdate f (raise c s) := rfl

@[simp] theorem setRing_portUpdate (k : Nat) (r : Ring) : setRing k r (portUpdate f s) = portUpdate f (setRing k r s) := rfl

@[simp] theorem setEntry_portUpdate (i : Nat) (e : Option Entry) :
    setEntry i e (portUpdate f s) = portUpdate f (setEntry i e s) := rfl

@[simp] theorem setRecord_portUpdate (i : Nat) (r : Option OutRecord) :
    setRecord i r (portUpdate f s) = portUpdate f (setRecord i r s) := rfl

@[simp] theorem cycleUpdate_portUpdate (g : CycleUnit → CycleUnit) :
    cycleUpdate g (portUpdate f s) = portUpdate f (cycleUpdate g s) := rfl

@[simp] theorem holdUpdate_portUpdate (g : HoldUnit → HoldUnit) :
    holdUpdate g (portUpdate f s) = portUpdate f (holdUpdate g s) := rfl

@[simp] theorem timeUpdate_portUpdate (g : Timebase → Timebase) :
    timeUpdate g (portUpdate f s) = portUpdate f (timeUpdate g s) := rfl

@[simp] theorem roundCtlUpdate_portUpdate (g : RoundCtl → RoundCtl) :
    roundCtlUpdate g (portUpdate f s) = portUpdate f (roundCtlUpdate g s) := rfl

/-! ### The journal and the send queue -/

@[simp] theorem takeRecord_portUpdate (k : Nat) (o : Nat → List Octet) :
    takeRecord k o (portUpdate f s) = portUpdate f (takeRecord k o s) := by
  simp only [takeRecord, ringAt_portUpdate]
  split
  · rfl
  · next r _ =>
    split
    · simp only [writeRecord]
      split <;> rfl
    · simp only [dropRecord]
      split <;> rfl

@[simp] theorem journalReport_portUpdate (r : ReportRecord) :
    journalReport r (portUpdate f s) = portUpdate f (journalReport r s) := by
  simp only [journalReport, reportsRing_portUpdate, ringAt_portUpdate, takeRecord_portUpdate]
  split
  · rfl
  · split <;> rfl

@[simp] theorem offerReport_portUpdate (r : ReportItem) :
    offerReport r (portUpdate f s) = portUpdate f (offerReport r s) := by
  simp only [offerReport, portUpdate_frame]
  split <;> rfl

@[simp] theorem purgeQueue_portUpdate : purgeQueue (portUpdate f s) = portUpdate f (purgeQueue s) := rfl

/-! ### The drive side -/

@[simp] theorem driveUpdate_portUpdate (c : Nat) (g : Drive → Drive) :
    driveUpdate c g (portUpdate f s) = portUpdate f (driveUpdate c g s) := by
  simp only [driveUpdate, driveCfg_portUpdate]
  split <;> rfl

@[simp] theorem requestLevel_portUpdate (c : Nat) (r : LevelReq) :
    requestLevel c r (portUpdate f s) = portUpdate f (requestLevel c r s) := driveUpdate_portUpdate f s _ _

@[simp] theorem forceAll_portUpdate : forceAll (portUpdate f s) = portUpdate f (forceAll s) :=
  foldl_portUpdate f s (fun _ _ => driveUpdate_portUpdate f _ _ _) _

@[simp] theorem releaseAll_portUpdate : releaseAll (portUpdate f s) = portUpdate f (releaseAll s) :=
  foldl_portUpdate f s (fun _ _ => driveUpdate_portUpdate f _ _ _) _

/-! ### The action unit -/

@[simp] theorem endEntry_portUpdate (i : Nat) (code : Octet) (d : Option Word16) :
    endEntry i code d (portUpdate f s) = portUpdate f (endEntry i code d s) := by
  simp only [endEntry, entryAt_portUpdate, portUpdate_frame, setEntry_portUpdate, journalReport_portUpdate,
    offerReport_portUpdate]
  split
  · rfl
  · split <;> rfl

@[simp] theorem completeFire_portUpdate (i : Nat) (e : Entry) (due : NT) :
    completeFire i e due (portUpdate f s) = portUpdate f (completeFire i e due s) := by
  simp only [completeFire, portUpdate_frame, setEntry_portUpdate, endEntry_portUpdate]
  split
  · rfl
  · split
    · split <;> rfl
    · rfl

@[simp] theorem fireEntry_portUpdate (i : Nat) (e : Entry) (due : NT) :
    fireEntry i e due (portUpdate f s) = portUpdate f (fireEntry i e due s) := by
  simp only [fireEntry, portUpdate_frame, setEntry_portUpdate, endEntry_portUpdate, requestLevel_portUpdate,
    completeFire_portUpdate]
  split
  · rfl
  · split <;> rfl

@[simp] theorem takeFire_portUpdate : takeFire (portUpdate f s) = portUpdate f (takeFire s) := by
  simp only [takeFire, dueFires_portUpdate, fireEntry_portUpdate]
  split <;> rfl

@[simp] theorem endPulse_portUpdate (i : Nat) (e : Entry) (ends : NT) (c : Bool) :
    endPulse i e ends c (portUpdate f s) = portUpdate f (endPulse i e ends c s) := by
  simp only [endPulse, requestLevel_portUpdate, endEntry_portUpdate, completeFire_portUpdate]
  split
  · rfl
  · rfl
  · split <;> rfl

@[simp] theorem takePulseEnd_portUpdate (i : Nat) : takePulseEnd i (portUpdate f s) = portUpdate f (takePulseEnd i s) := by
  simp only [takePulseEnd, entryAt_portUpdate, portUpdate_frame, endPulse_portUpdate]
  split
  · rfl
  · split
    · split <;> rfl
    · rfl
    · rfl

@[simp] theorem cancelEntry_portUpdate (i : Nat) : cancelEntry i (portUpdate f s) = portUpdate f (cancelEntry i s) := by
  simp only [cancelEntry, entryAt_portUpdate, endEntry_portUpdate, setEntry_portUpdate]
  split
  · rfl
  · split <;> rfl

@[simp] theorem actionEntersHeld_portUpdate :
    actionEntersHeld (portUpdate f s) = portUpdate f (actionEntersHeld s) :=
  foldl_portUpdate f { s with action := { s.action with held := true } } (fun _ _ => endEntry_portUpdate f _ _ _ _) _

@[simp] theorem actionLeavesHeld_portUpdate :
    actionLeavesHeld (portUpdate f s) = portUpdate f (actionLeavesHeld s) := rfl

/-! ### The cycle unit -/

@[simp] theorem fireCyclic_portUpdate (d : CyclicDue) :
    fireCyclic d (portUpdate f s) = portUpdate f (fireCyclic d s) := by
  simp only [fireCyclic, portUpdate_frame, cycleUpdate_portUpdate, requestLevel_portUpdate]
  split
  · rfl
  · split <;> rfl

@[simp] theorem takeCyclicFire_portUpdate : takeCyclicFire (portUpdate f s) = portUpdate f (takeCyclicFire s) := by
  simp only [takeCyclicFire, dueCyclic_portUpdate, fireCyclic_portUpdate]
  split <;> rfl

@[simp] theorem takeDueCyclic_portUpdate : takeDueCyclic (portUpdate f s) = portUpdate f (takeDueCyclic s) :=
  foldl_portUpdate f s (fun _ _ => takeCyclicFire_portUpdate f _) _

@[simp] theorem takeCyclicEnd_portUpdate (place : Nat) :
    takeCyclicEnd place (portUpdate f s) = portUpdate f (takeCyclicEnd place s) := by
  simp only [takeCyclicEnd, portUpdate_frame, cyclicEnd_isDue_portUpdate, cycleUpdate_portUpdate,
    requestLevel_portUpdate]
  split
  · rfl
  · split <;> rfl

@[simp] theorem takeSwap_portUpdate : takeSwap (portUpdate f s) = portUpdate f (takeSwap s) := by
  simp only [takeSwap, portUpdate_frame, cycleUpdate_portUpdate, raise_portUpdate]
  split
  · split <;> rfl
  · rfl

@[simp] theorem cycleRoundStart_portUpdate : cycleRoundStart (portUpdate f s) = portUpdate f (cycleRoundStart s) := by
  simp only [cycleRoundStart, takeDueCyclic_portUpdate, takeSwap_portUpdate, portUpdate_frame]
  split <;> rfl

@[simp] theorem propose_portUpdate (round : Word16) : propose round (portUpdate f s) = portUpdate f (propose round s) := by
  simp only [propose, portUpdate_frame, raise_portUpdate, cycleUpdate_portUpdate]
  split
  · rfl
  · split
    · rfl
    · split <;> rfl

/-! ### The hold unit -/

@[simp] theorem enterHeld_portUpdate : enterHeld (portUpdate f s) = portUpdate f (enterHeld s) := by
  simp only [enterHeld, portUpdate_frame, holdUpdate_portUpdate, forceAll_portUpdate, actionEntersHeld_portUpdate,
    cycleEntersHeld, cycleUpdate_portUpdate, raise_portUpdate]

@[simp] theorem addReason_portUpdate (r : Reason) : addReason r (portUpdate f s) = portUpdate f (addReason r s) := by
  simp only [addReason, portUpdate_frame, holdUpdate_portUpdate, enterHeld_portUpdate]
  split <;> rfl

@[simp] theorem removeReason_portUpdate (r : Reason) :
    removeReason r (portUpdate f s) = portUpdate f (removeReason r s) := rfl

@[simp] theorem holdRoundStart_portUpdate : holdRoundStart (portUpdate f s) = portUpdate f (holdRoundStart s) := by
  simp only [holdRoundStart, leaveHeld, portUpdate_frame, holdUpdate_portUpdate, releaseAll_portUpdate,
    actionLeavesHeld_portUpdate, cycleLeavesHeld, cycleUpdate_portUpdate, raise_portUpdate]
  split <;> rfl

@[simp] theorem holdTakesSync_portUpdate : holdTakesSync (portUpdate f s) = portUpdate f (holdTakesSync s) := by
  simp only [holdTakesSync, portUpdate_frame, addReason_portUpdate, removeReason_portUpdate]
  split
  case h_6 => split <;> rfl
  all_goals rfl

@[simp] theorem takeHoldLine_portUpdate : takeHoldLine (portUpdate f s) = portUpdate f (takeHoldLine s) := by
  simp only [takeHoldLine, portUpdate_frame, holdUpdate_portUpdate, addReason_portUpdate, removeReason_portUpdate]
  split
  · split <;> rfl
  · rfl

/-! ### The request unit -/

@[simp] theorem completeRecord_portUpdate (place : Nat) (code : Octet) (c : Carried) :
    completeRecord place code c (portUpdate f s) = portUpdate f (completeRecord place code c s) := by
  simp only [completeRecord, recordOf_portUpdate, setRecord_portUpdate, journalReport_portUpdate]
  split <;> rfl

@[simp] theorem completeWhere_portUpdate (p : OutRecord → Bool) (code : Octet) :
    completeWhere p code (portUpdate f s) = portUpdate f (completeWhere p code s) :=
  foldl_portUpdate f s (fun _ _ => completeRecord_portUpdate f _ _ _ _) _

@[simp] theorem requestRoundStart_portUpdate :
    requestRoundStart (portUpdate f s) = portUpdate f (requestRoundStart s) := by
  simp only [requestRoundStart, portUpdate_frame, completeWhere_portUpdate]
  split <;> rfl

@[simp] theorem takePeerLost_portUpdate (k : Nat) : takePeerLost k (portUpdate f s) = portUpdate f (takePeerLost k s) :=
  completeWhere_portUpdate f s _ _

/-! ### The end of a round -/

@[simp] theorem enterSync_portUpdate (y : Sync) : enterSync y (portUpdate f s) = portUpdate f (enterSync y s) := by
  simp only [enterSync, timeUpdate_portUpdate, raise_portUpdate, holdTakesSync_portUpdate]

@[simp] theorem requestFalls_portUpdate (y : Sync) :
    requestFalls y (portUpdate f s) = portUpdate f (requestFalls y s) := by
  simp only [requestFalls, abandonRecords, completeWhere_portUpdate]
  split <;> rfl

@[simp] theorem fallToListen_portUpdate (o : RoundOrder) (c : Option Cause) :
    fallToListen o c (portUpdate f s) = portUpdate f (fallToListen o c s) := by
  have hfalls : timebaseFalls (portUpdate f s) = portUpdate f (timebaseFalls s) := rfl
  cases c <;> simp only [fallToListen, hfalls, raise_portUpdate, portUpdate_frame, peersAbsent, cycleEntersListen,
    roundCtlUpdate_portUpdate, cycleUpdate_portUpdate, purgeQueue_portUpdate, requestFalls_portUpdate,
    holdTakesSync_portUpdate, ← apply_ite (portUpdate f)]

@[simp] theorem coldstartFails_portUpdate (o : RoundOrder) :
    coldstartFails o (portUpdate f s) = portUpdate f (coldstartFails o s) := by
  simp only [coldstartFails, timeUpdate_portUpdate, fallToListen_portUpdate]

@[simp] theorem enterSynced_portUpdate : enterSynced (portUpdate f s) = portUpdate f (enterSynced s) := by
  simp only [enterSynced, timeUpdate_portUpdate, enterSync_portUpdate]

@[simp] theorem roundTransition_portUpdate (o : RoundOrder) (c : Int) (refs naming : Nat) :
    roundTransition o c refs naming (portUpdate f s) = portUpdate f (roundTransition o c refs naming s) := by
  simp only [roundTransition, coldstartRoundEnd, joiningRoundEnd, syncedRoundEnd, holdoverRoundEnd, portUpdate_frame,
    timeUpdate_portUpdate, enterSynced_portUpdate, enterSync_portUpdate, coldstartFails_portUpdate,
    fallToListen_portUpdate]
  repeat' split
  all_goals rfl

/-! ### The start of a round -/

@[simp] theorem countSilence_portUpdate (k : Nat) : countSilence (portUpdate f s) k = portUpdate f (countSilence s k) := by
  simp only [countSilence, portUpdate_frame, roundCtlUpdate_portUpdate, raise_portUpdate]
  split
  · rfl
  · split <;> rfl

@[simp] theorem peersRoundStart_portUpdate : peersRoundStart (portUpdate f s) = portUpdate f (peersRoundStart s) := by
  simp only [peersRoundStart, portUpdate_frame, foldl_portUpdate f _ (countSilence_portUpdate f),
    roundCtlUpdate_portUpdate]

@[simp] theorem requestsRoundStart_portUpdate (o : RoundOrder) (lost : List Nat) :
    requestsRoundStart o lost (portUpdate f s) = portUpdate f (requestsRoundStart o lost s) := by
  have hlost (u : State) := foldl_portUpdate f u (g := fun s k => takePeerLost k s)
    (fun s k => takePeerLost_portUpdate f s k) lost
  simp only [requestsRoundStart, hlost, requestRoundStart_portUpdate]
  split <;> rfl

@[simp] theorem outputsRoundStart_portUpdate (o : ReleaseOrder) :
    outputsRoundStart o (portUpdate f s) = portUpdate f (outputsRoundStart o s) := by
  have hzero (n : Nat) (u : State) : takeOffsetZero n (portUpdate f u) = portUpdate f (takeOffsetZero n u) :=
    foldl_portUpdate f u (fun _ _ => fireCyclic_portUpdate f _ _) _
  simp only [outputsRoundStart, holdRoundStart_portUpdate, cycleRoundStart_portUpdate, hzero]
  split <;> rfl

@[simp] theorem startRound_portUpdate (o : RoundOrder) (y : Sync) (c : Int) (refs : Nat) :
    startRound o y c refs (portUpdate f s) = portUpdate f (startRound o y c refs s) := by
  have hlost : peersLost (portUpdate f s) = peersLost s := rfl
  have hend : roundEndInstant (portUpdate f s) = roundEndInstant s := rfl
  simp only [startRound, hlost, hend, portUpdate_frame, timeUpdate_portUpdate, peersRoundStart_portUpdate,
    requestsRoundStart_portUpdate, outputsRoundStart_portUpdate]

@[simp] theorem takeRoundEnd_portUpdate (o : RoundOrder) :
    takeRoundEnd o (portUpdate f s) = portUpdate f (takeRoundEnd o s) := by
  simp only [takeRoundEnd, roundEndDue_portUpdate, portUpdate_frame, timeUpdate_portUpdate, roundTransition_portUpdate,
    startRound_portUpdate]
  repeat' split
  all_goals rfl

/-! ### What is due on the drive lines (R145) -/

theorem endRounds_portUpdate (n : Nat) : endRounds n (portUpdate f s) = portUpdate f (endRounds n s) := by
  induction n generalizing s with
  | zero => rfl
  | succ n ih => rw [endRounds, takeRoundEnd_portUpdate, ih, endRounds]

theorem drainCyclicEnds_portUpdate (n : Nat) :
    drainCyclicEnds n (portUpdate f s) = portUpdate f (drainCyclicEnds n s) := by
  induction n generalizing s with
  | zero => rfl
  | succ n ih =>
    simp only [drainCyclicEnds, portUpdate_frame, cyclicEnd_isDue_portUpdate, takeCyclicEnd_portUpdate, ih]
    split <;> rfl

theorem drainPulseEnds_portUpdate : drainPulseEnds (portUpdate f s) = portUpdate f (drainPulseEnds s) := by
  have hpulses := foldl_portUpdate f s (g := fun s i => takePulseEnd i s) (fun s i => takePulseEnd_portUpdate f s i)
    (List.range 48)
  simp only [drainPulseEnds, hpulses, portUpdate_frame, drainCyclicEnds_portUpdate]

theorem drainFires_portUpdate (n : Nat) : drainFires n (portUpdate f s) = portUpdate f (drainFires n s) := by
  induction n generalizing s with
  | zero => rfl
  | succ n ih =>
    simp only [drainFires, dueFires_portUpdate, takeFire_portUpdate, ih]
    split <;> rfl

theorem drainDrives_portUpdate : drainDrives (portUpdate f s) = portUpdate f (drainDrives s) := by
  have hrounds (u : State) : takeRoundEnds (portUpdate f u) = portUpdate f (takeRoundEnds u) := endRounds_portUpdate f u _
  have hleft (u : State) : firesLeft (portUpdate f u) = firesLeft u := rfl
  simp only [drainDrives, drainStarts, takeHoldLine_portUpdate, drainPulseEnds_portUpdate, hrounds, hleft,
    drainFires_portUpdate, takeDueCyclic_portUpdate]

theorem changeDue_portUpdate (c : Nat) : changeDue c (portUpdate f s) = changeDue c s := by
  simp only [changeDue, drainDrives_portUpdate, portUpdate_frame]

end Blind

end Sys2Proof.Machine
end

section
/-! SUPPORT. The operand octets of a command, clocked in one after another, reach its owner as they stand (R181). -/

namespace Sys2Proof.Machine

section Blind

variable (f : Port → Port) (s : State)

/-! ### The request unit -/

theorem offerRequest_portUpdate (i : Item) :
    offerRequest i (portUpdate f s) = (offerRequest i s).map (portUpdate f) := by
  simp only [offerRequest, portUpdate_frame]
  split <;> rfl

theorem withdrawArm_portUpdate (target : Nat) (tag : Octet) :
    withdrawArm target tag (portUpdate f s) = (withdrawArm target tag s).map (portUpdate f) := by
  have hpacked : packedCount (portUpdate f s) = packedCount s := rfl
  simp only [withdrawArm, portUpdate_frame, hpacked]
  split <;> rfl

theorem takeArmRemote_portUpdate (target c : Nat) (a : ArmFields) :
    takeArmRemote target c a (portUpdate f s) =
      (portUpdate f (takeArmRemote target c a s).1, (takeArmRemote target c a s).2) := by
  have hvalid : remoteArmValid target c a (portUpdate f s) = remoteArmValid target c a s := rfl
  have hfree : freeRecord (portUpdate f s) = freeRecord s := rfl
  simp only [takeArmRemote, portUpdate_frame, hvalid, hfree, recordsWhere_portUpdate, offerRequest_portUpdate]
  split
  · rfl
  · split
    · rfl
    · split
      · rfl
      · cases offerRequest _ s <;> rfl

theorem offerCancel_portUpdate (place : Nat) (r : OutRecord) :
    offerCancel place r (portUpdate f s) = (portUpdate f (offerCancel place r s).1, (offerCancel place r s).2) := by
  simp only [offerCancel, offerRequest_portUpdate]
  cases offerRequest _ s <;> rfl

theorem cancelRecord_portUpdate (place : Nat) (r : OutRecord) :
    cancelRecord place r (portUpdate f s) = (portUpdate f (cancelRecord place r s).1, (cancelRecord place r s).2) := by
  simp only [cancelRecord, withdrawArm_portUpdate, offerCancel_portUpdate]
  split
  · rfl
  · split
    · cases withdrawArm r.target r.tag s with
      | none => rfl
      | some s1 => simp only [Option.map_some, completeRecord_portUpdate]
    · rfl
    · rfl

end Blind

/-! ### The owners of the commands -/

/-- The port as an octet moves it, with the transaction in another state and another octet on SDO. -/
def Port.clocked (x : Transaction) (octets : Nat) (o : Option Octet) (p : Port) : Port :=
  { p with transaction := x, octetCount := octets, sdo := o }

section Clocked

variable (x : Transaction) (n : Nat) (o : Option Octet) (s : State)

/-- What an owner of a command reads of the port is not what an octet moves. -/
@[simp] theorem clocked_frame (p : Port) : (p.clocked x n o).started = p.started ∧ (p.clocked x n o).loaded = p.loaded :=
  ⟨rfl, rfl⟩

theorem judgeRing_clocked (k : Nat) : judgeRing k (portUpdate (Port.clocked x n o) s) = judgeRing k s := rfl

/-- The owner of a command with operands takes it in the same way wherever the transaction stands (R181). -/
theorem takeCommand_clocked {cmd : Cmd} (hops : 0 < cmd.operandCount) (ops : List Octet) :
    takeCommand cmd ops (portUpdate (Port.clocked x n o) s) =
      (portUpdate (Port.clocked x n o) (takeCommand cmd ops s).1, (takeCommand cmd ops s).2) := by
  cases cmd
  case loadProfile =>
    simp only [takeCommand, takeLoadProfile, portUpdate_frame]
    repeat' split
    all_goals rfl
  case readPeer =>
    simp only [takeCommand, takeReadPeer, portUpdate_frame, clocked_frame]
    repeat' split
    all_goals rfl
  case readChannel =>
    have hcfg (c : Nat) : channelCfg (portUpdate (Port.clocked x n o) s) c = channelCfg s c := rfl
    simp only [takeCommand, takeReadChannel, portUpdate_frame, shownDrive, changeDue_portUpdate, hcfg]
    split <;> rfl
  case arm =>
    have hjudge (c : Nat) (f : ArmFields) :
        judgeArm none c f (portUpdate (Port.clocked x n o) s) = judgeArm none c f s := rfl
    have hfree : freeEntry (portUpdate (Port.clocked x n o) s) = freeEntry s := rfl
    simp only [takeCommand, takeArm, portUpdate_frame, clocked_frame, hjudge, hfree]
    repeat' split
    all_goals rfl
  case cancel =>
    simp only [takeCommand, takeCancel, portUpdate_frame, clocked_frame, entryAt_portUpdate, cancelEntry_portUpdate]
    repeat' split
    all_goals rfl
  case readEntry =>
    simp only [takeCommand, takeReadEntry, entryAt_portUpdate]
    repeat' split
    all_goals rfl
  case armRemote => exact takeArmRemote_portUpdate _ _ _ _ _
  case cancelRemote =>
    simp only [takeCommand, takeCancelRemote, portUpdate_frame, clocked_frame, recordsWhere_portUpdate,
      recordOf_portUpdate, cancelRecord_portUpdate]
    repeat' split
    all_goals rfl
  case stageEntry =>
    simp only [takeCommand, takeStageEntry, portUpdate_frame, clocked_frame, cycleUpdate_portUpdate]
    repeat' split
    all_goals rfl
  case clearStaged =>
    simp only [takeCommand, takeClearStaged, portUpdate_frame, clocked_frame, cycleUpdate_portUpdate]
    repeat' split
    all_goals rfl
  case readBank =>
    simp only [takeCommand, takeReadBank]
    split <;> rfl
  case proposeSwap =>
    simp only [takeCommand, takeProposeSwap, portUpdate_frame, propose_portUpdate]
    repeat' split
    all_goals rfl
  case ringStatus =>
    simp only [takeCommand, takeRingStatus, judgeRing_clocked, portUpdate_frame]
    split <;> rfl
  case readRing =>
    simp only [takeCommand, takeReadRing, judgeRing_clocked, portUpdate_frame]
    split
    · rfl
    · split <;> rfl
  case releaseRing =>
    simp only [takeCommand, takeReleaseRing, judgeRing_clocked, setRing_portUpdate]
    split
    · rfl
    · split <;> rfl
  case ackNotices =>
    simp only [takeCommand, takeAckNotices, portUpdate_frame]
    repeat' split
    all_goals rfl
  case setNoticeMask =>
    simp only [takeCommand, takeSetNoticeMask]
    split <;> rfl
  all_goals exact absurd hops (by decide)

theorem takeWhole_clocked {cmd : Cmd} (hops : 0 < cmd.operandCount) (ops : List Octet) :
    takeWhole cmd ops (portUpdate (Port.clocked x n o) s) = takeWhole cmd ops s := by
  simp only [takeWhole, takeCommand_clocked x n o s hops, portUpdate_frame]
  rfl

/-- What an operand octet has left in the port is overwritten when the next one is taken (R181). -/
theorem takeOperands_clocked {cmd : Cmd} (hops : 0 < cmd.operandCount) (ops : List Octet) :
    takeOperands cmd ops (portUpdate (Port.clocked x n o) s) = takeOperands cmd ops s := by
  unfold takeOperands
  split
  · exact takeWhole_clocked x n o s hops _
  · rfl

end Clocked

/-- Operand octets that do not exceed the operands, clocked in one after another, are taken as they would be together
(R181). -/
theorem foldl_takePortOctet {cmd : Cmd} {rest got : List Octet} {s : State}
    (h : got.length + rest.length ≤ cmd.operandCount) :
    rest.foldl (fun s o => takePortOctet o s) (takeOperands cmd got s) = takeOperands cmd (got ++ rest) s := by
  induction rest generalizing got with
  | nil => rw [List.append_nil, List.foldl_nil]
  | cons o rest ih =>
    rw [List.length_cons] at h
    have hshort : got.length < cmd.operandCount := by omega
    have hnext : takePortOctet o (takeOperands cmd got s) = takeOperands cmd (got ++ [o]) s := by
      rw [takeOperands_short hshort, takePortOctet_operands o rfl]
      exact takeOperands_clocked _ _ _ s (Nat.zero_lt_of_lt hshort) _
    rw [List.foldl_cons, hnext, ih (by rw [List.length_append, List.length_singleton]; omega), List.append_assoc,
      List.singleton_append]

/-- The octets of a command, clocked in from COMMAND, are the row with all its operands (R181; assumption 5). -/
theorem clockOctets_command {first : Octet} {rest : List Octet} {cmd : Cmd} {s : State}
    (hc : Cmd.ofOctet first = some cmd) (hl : rest.length = cmd.operandCount) (ho : s.portOpen) :
    clockOctets (first :: rest) s = .next (portCommand cmd rest s) := by
  obtain ⟨hreset, hcommand⟩ := ho
  have hrow : portCommand cmd rest s = takeOperands cmd rest s := by
    simp only [portCommand, openFor, hreset, hcommand, Bool.false_eq_true, if_false]
  rw [clockOctets_eq, List.foldl_cons, takePortOctet_command first hcommand, takeCommandOctet_named hc,
    foldl_takePortOctet (by rw [List.length_nil]; omega), List.nil_append, hrow]

end Sys2Proof.Machine
end

section
/-! SETTLED. A command row stands for its octets clocked in one after another (O7). -/

namespace Sys2Proof.Machine

/-! ### The octets of a row (R184, R186) -/

theorem wire_shape (c : Instr) : Laws.Shape.Statement c := by
  cases c
  case loadProfile p => exact Laws.Shape.loadProfile p
  case start => exact Laws.Shape.start
  case status => exact Laws.Shape.status
  case readTime => exact Laws.Shape.readTime
  case readPeer k => exact Laws.Shape.readPeer k
  case readChannel c => exact Laws.Shape.readChannel c
  case readProfile => exact Laws.Shape.readProfile
  case arm c fs => exact Laws.Shape.arm c fs
  case cancel i t => exact Laws.Shape.cancel i t
  case readEntry i => exact Laws.Shape.readEntry i
  case armRemote k c fs => exact Laws.Shape.armRemote k c fs
  case cancelRemote t => exact Laws.Shape.cancelRemote t
  case readOutbound => exact Laws.Shape.readOutbound
  case stageEntry i e => exact Laws.Shape.stageEntry i e
  case clearStaged i n => exact Laws.Shape.clearStaged i n
  case markReady => exact Laws.Shape.markReady
  case readBank b i n => exact Laws.Shape.readBank b i n
  case proposeSwap r => exact Laws.Shape.proposeSwap r
  case ringStatus k => exact Laws.Shape.ringStatus k
  case readRing k n => exact Laws.Shape.readRing k n
  case releaseRing k n => exact Laws.Shape.releaseRing k n
  case hold => exact Laws.Shape.hold
  case release => exact Laws.Shape.release
  case readNotices => exact Laws.Shape.readNotices
  case ackNotices cs => exact Laws.Shape.ackNotices cs
  case setNoticeMask cs => exact Laws.Shape.setNoticeMask cs
  case softReset => exact Laws.Shape.softReset
  case unknownCommand o => exact Laws.Shape.unknownCommand o
  all_goals exact Laws.Shape.of_event rfl

/-- A row that spells a command octet is the row of that command. -/
theorem exec_named {c : Instr} {first : Octet} {rest : List Octet} {cmd : Cmd} (s : State)
    (hw : c.wire = some (first :: rest)) (hf : c.wellFormed = true) (hc : Cmd.ofOctet first = some cmd) :
    exec c s = .next (portCommand cmd rest s) := by
  cases c
  case unknownCommand octet =>
    cases hw
    rw [ofOctet_unknown hf] at hc
    cases hc
  all_goals cases hw
  all_goals cases hc
  all_goals rfl

/-- A row that spells an octet that names no command is the row of such an octet. -/
theorem eq_unknownCommand {c : Instr} {first : Octet} {rest : List Octet} (hw : c.wire = some (first :: rest))
    (hc : Cmd.ofOctet first = none) : c = .unknownCommand first := by
  cases c
  case unknownCommand octet =>
    cases hw
    rfl
  all_goals cases hw
  all_goals cases hc

/-- Settles O7: the operand octets stay in the port, which the command's owner does not see, until the last one hands
them over. -/
theorem wireAndRowAgree : Obligations.WireAndRowAgree := by
  intro c os s hw hf ho
  obtain ⟨first, rest, rfl, hnamed, halone⟩ := wire_shape c os hw hf
  cases hc : Cmd.ofOctet first with
  | some cmd => rw [clockOctets_command hc (hnamed cmd hc) ho, exec_named s hw hf hc]
  | none =>
    obtain rfl := halone hc
    obtain rfl := eq_unknownCommand hw hc
    rw [clockOctets_eq, exec_unknownCommand ho, List.foldl_cons, List.foldl_nil, takePortOctet_command first ho.2]

end Sys2Proof.Machine
end
